-- ==== Sys2Proof/Word.lean ====
section
/-! DEFINITION. The word types of the DR-48 manual's conventions: bytes on the lines, 16-bit numbers taken modulo 65,536,
32-bit words. -/

namespace Sys2Proof

/-- A byte of a line or a layout. -/
abbrev Byte := BitVec 8

/-- A 16-bit number: an epoch, a sequence, a release number (conventions, "Modular arithmetic"). -/
abbrev Half := BitVec 16

/-- A 32-bit word: bit 0 is the least significant (conventions, "Words and bits"). -/
abbrev Word := BitVec 32

end Sys2Proof
end

