-- ==== Sys2Proof/Syntax.lean ====
section
/-! DEFINITION. The commands of the DR-48: one constructor for each row of spec/opcode_table.json.

A frame command carries what the back office chooses of a Station Link frame: the 16-bit code field and the body. The
kind is the constructor's and the CRC is the right one, so the constructor stands for the characters of that frame on
LRXD (layout: R182). The events of the part itself carry what singles the event out: a release number, a string, the
characters that a line brought. -/

namespace Sys2Proof

/-- One of the two dock strings (chapter 8). -/
inductive StringId
  | a | b
  deriving DecidableEq, Repr

/-- The commands. `code` is a frame's station-code field, `body` its body. -/
inductive Instr
  /-- POWER_ON_RESET: power-on, or the release of RESETN; `straps` are the levels of SC11 to SC0 (R9, R178). -/
  | powerOnReset (straps : BitVec 12)
  /-- TICK: one 0.1 s tick of the Station Clock (R118). -/
  | tick
  /-- VERDICT: a frame of kind 01h (R86). -/
  | verdict (code : Half) (body : List Byte)
  /-- CREDIT: a frame of kind 02h (R30). -/
  | credit (code : Half) (body : List Byte)
  /-- CLOSE_RIDE: a frame of kind 03h (R31). -/
  | closeRide (code : Half) (body : List Byte)
  /-- LOAD_OPEN: a frame of kind 04h (R151). -/
  | loadOpen (code : Half) (body : List Byte)
  /-- LOAD_ROWS: a frame of kind 05h (R152). -/
  | loadRows (code : Half) (body : List Byte)
  /-- LOAD_SEAL: a frame of kind 06h (R154). -/
  | loadSeal (code : Half) (body : List Byte)
  /-- LOAD_ABORT: a frame of kind 07h (R155). -/
  | loadAbort (code : Half) (body : List Byte)
  /-- RIDER_BATCH: a frame of kind 08h (R162). -/
  | riderBatch (code : Half) (body : List Byte)
  /-- BLOCK_BATCH: a frame of kind 09h (R162). -/
  | blockBatch (code : Half) (body : List Byte)
  /-- PUT: the application of the batch slot's next record, a PUT (R21). -/
  | put
  /-- DROP: the application of the batch slot's next record, a DROP (R22). -/
  | drop
  /-- ADD: the application of the batch slot's next record, an ADD (R37). -/
  | add
  /-- REMOVE: the application of the batch slot's next record, a REMOVE (R38). -/
  | remove
  /-- EPOCH_MARK: a frame of kind 0Ah (R120, R121). -/
  | epochMark (code : Half) (body : List Byte)
  /-- DOCK_ORDER_RELEASE: a frame of kind 0Bh whose action byte is 1 (R58). -/
  | dockOrderRelease (code : Half) (body : List Byte)
  /-- DOCK_ORDER_RELATCH: a frame of kind 0Bh whose action byte is 2 (R59). -/
  | dockOrderRelatch (code : Half) (body : List Byte)
  /-- OUT_OF_SERVICE: a frame of kind 0Bh whose action byte is 3 (R60). -/
  | outOfService (code : Half) (body : List Byte)
  /-- IN_SERVICE: a frame of kind 0Bh whose action byte is 4 (R61). -/
  | inService (code : Half) (body : List Byte)
  /-- HEAD_PASS: a frame of kind 0Ch (R143). -/
  | headPass (code : Half) (body : List Byte)
  /-- QUERY_DOCK_ROWS: a frame of kind 0Dh whose target byte is 1 (R164). -/
  | queryDockRows (code : Half) (body : List Byte)
  /-- QUERY_CLASS_ROWS: a frame of kind 0Dh whose target byte is 2 (R164). -/
  | queryClassRows (code : Half) (body : List Byte)
  /-- QUERY_PARAM_ROWS: a frame of kind 0Dh whose target byte is 3 (R164). -/
  | queryParamRows (code : Half) (body : List Byte)
  /-- QUERY_KEY: a frame of kind 0Dh whose target byte is 4 (R164). -/
  | queryKey (code : Half) (body : List Byte)
  /-- QUERY_RIDER: a frame of kind 0Dh whose target byte is 5 (R164). -/
  | queryRider (code : Half) (body : List Byte)
  /-- QUERY_BLOCK_LIST: a frame of kind 0Dh whose target byte is 6 (R165). -/
  | queryBlockList (code : Half) (body : List Byte)
  /-- QUERY_RELEASE_LIST: a frame of kind 0Dh whose target byte is 7 (R165). -/
  | queryReleaseList (code : Half) (body : List Byte)
  /-- QUERY_DOCK_CONTEXTS: a frame of kind 0Dh whose target byte is 8 (R164). -/
  | queryDockContexts (code : Half) (body : List Byte)
  /-- QUERY_COUNTERS: a frame of kind 0Dh whose target byte is 9, the clear flag clear (R166). -/
  | queryCounters (code : Half) (body : List Byte)
  /-- QUERY_COUNTER_CLEAR: a frame of kind 0Dh whose target byte is 9, the clear flag set (R166). -/
  | queryCounterClear (code : Half) (body : List Byte)
  /-- STATION_RESET_RUNTIME: a frame of kind 0Eh whose scope byte is 1 (R174). -/
  | stationResetRuntime (code : Half) (body : List Byte)
  /-- STATION_RESET_FULL: a frame of kind 0Eh whose scope byte is 2 (R174). -/
  | stationResetFull (code : Half) (body : List Byte)
  /-- BAD_FRAME: a complete frame with the CRC given and the kind code given (R170). -/
  | badFrame (code : Half) (kind : Byte) (body : List Byte) (crc : Half)
  /-- FOREIGN_FRAME: a complete frame with a good CRC (R171). -/
  | foreignFrame (code : Half) (kind : Byte) (body : List Byte)
  /-- LENGTH_OVERSIZE: a start byte and the two bytes of a body length (R168). -/
  | lengthOversize (length : Half)
  /-- FRAME_GAP_TIMEOUT: the characters given, then four character times without one (R169). -/
  | frameGapTimeout (chars : List Byte)
  /-- FRAMING_ERROR: the characters given, then a character with a framing error (R169). -/
  | framingError (chars : List Byte)
  /-- PRESENCE_TIMER_EXPIRY: the presence timer that has reached 0 is taken (R108). -/
  | presenceTimerExpiry
  /-- REFERRAL_TIMER_EXPIRY: the referral timer of that release, at 0, is taken (R91). -/
  | referralTimerExpiry (release : Half)
  /-- LIFT_TIMER_EXPIRY: the lift timer of that release, at 0, is taken (R96). -/
  | liftTimerExpiry (release : Half)
  /-- LOCAL_EPOCH_TIMER_EXPIRY: the local epoch timer, at 0, is taken (R123). -/
  | localEpochTimerExpiry
  /-- POLL_SEND: the line of that string is idle in CLEARING (R133, R140). -/
  | pollSend (m : StringId)
  /-- ORDINARY_EXCHANGE_END: the reply window closes, having brought those characters (R138). -/
  | ordinaryExchangeEnd (m : StringId) (rx : List Byte)
  /-- PASS_EXCHANGE_END: the reply window closes, having brought those characters (R145). -/
  | passExchangeEnd (m : StringId) (rx : List Byte)
  /-- LINE_STUCK: the line is not idle 1 ms after CLEARING began (R140, R141). -/
  | lineStuck (m : StringId)
  /-- BREAK_PULSES_DONE: the sixteenth break pulse ends (R141). -/
  | breakPulsesDone (m : StringId)
  /-- RECOVERY_TIMER_EXPIRY: the 20 ms recovery timer runs out (R141). -/
  | recoveryTimerExpiry (m : StringId)
  /-- TRANSMIT_START: the transmitter looks at the queue and at LINK_READY, whose level is given (R176). -/
  | transmitStart (linkReady : Bool)
  /-- TRANSMIT_END: the last CRC byte of the frame in transmission ends (R176). -/
  | transmitEnd
  /-- RESETN_ASSERTED: RESETN goes low (R178). -/
  | resetnAsserted
  /-- POLL_LAST_CHARACTER_END: the last character of a poll ends (R135). -/
  | pollLastCharacterEnd (m : StringId)
  /-- DOCK_ORDER_BAD_ACTION: a frame of kind 0Bh whose action byte is none of the four (R57). -/
  | dockOrderBadAction (code : Half) (body : List Byte)
  deriving DecidableEq, Repr

end Sys2Proof
end

