-- ==== Sys2Proof/Machine/Bytes.lean ====
section
/-! DEFINITION. Byte order, the CRC of both lines, the end-around-carry addition and the rotation of the tag fold. -/

namespace Sys2Proof.Machine

/-- Two bytes as a number, most significant byte first (conventions, "Words and bits"). -/
def joinHalf (hi lo : Byte) : Half := hi ++ lo

/-- Four bytes as a word, most significant byte first. -/
def joinWord (b3 b2 b1 b0 : Byte) : Word := ((b3 ++ b2 : Half) ++ (b1 ++ b0 : Half) : Word)

/-- The bytes of a 16-bit number, most significant first. -/
def halfBytes (h : Half) : List Byte := [h.extractLsb' 8 8, h.extractLsb' 0 8]

/-- The bytes of a word, most significant first. -/
def wordBytes (w : Word) : List Byte :=
  [w.extractLsb' 24 8, w.extractLsb' 16 8, w.extractLsb' 8 8, w.extractLsb' 0 8]

/-- A number as one byte of a layout. -/
def natByte (n : Nat) : Byte := BitVec.ofNat 8 n

/-- A number as two bytes of a layout. -/
def natBytes2 (n : Nat) : List Byte := halfBytes (BitVec.ofNat 16 n)

/-- A flag at a bit position of a flags byte (R182). -/
def flagBit (b : Bool) (i : Nat) : Byte := if b then (1 : Byte) <<< i else 0

/-- The byte of a body at an offset; 0 past its last byte. -/
def byteAt (body : List Byte) (i : Nat) : Byte := body.getD i 0

/-- The 16-bit field of a body at an offset. -/
def halfAt (body : List Byte) (i : Nat) : Half := joinHalf (byteAt body i) (byteAt body (i + 1))

/-- The word of a body at an offset. -/
def wordAt (body : List Byte) (i : Nat) : Word :=
  joinWord (byteAt body i) (byteAt body (i + 1)) (byteAt body (i + 2)) (byteAt body (i + 3))

/-- One bit of the CRC of polynomial x^16 + x^12 + x^5 + 1 (R129, R170). -/
def crcBit (c : Half) : Half := if c.msb then (c <<< 1) ^^^ 0x1021 else c <<< 1

/-- One byte of the CRC, most significant bit first. -/
def crcByte (c : Half) (b : Byte) : Half :=
  crcBit (crcBit (crcBit (crcBit (crcBit (crcBit (crcBit (crcBit (c ^^^ (b.zeroExtend 16 <<< 8)))))))))

/-- The CRC-16 of both lines: initial value FFFFh, no reflection, no final inversion (R129, R170). -/
def crc16 (bs : List Byte) : Half := bs.foldl crcByte 0xFFFF

/-- The end-around-carry sum of two words (R5). -/
def addEndAround (a b : Word) : Word :=
  if a.toNat + b.toNat < 2 ^ 32 then BitVec.ofNat 32 (a.toNat + b.toNat)
  else BitVec.ofNat 32 (a.toNat + b.toNat - 2 ^ 32 + 1)

/-- Left rotation by `i` whole bytes, `i` of 0 to 3 (R6). -/
def rotateBytes (w : Word) (i : Nat) : Word := w.rotateLeft (8 * i)

/-- A vector given by its elements. -/
def tabulate {α : Type} {n : Nat} (g : Fin n → α) : Vector α n := ⟨⟨List.ofFn g⟩, by simp⟩

end Sys2Proof.Machine
end

