-- ==== Sys2Proof/Machine/State.lean ====
section
/-! DEFINITION. The state of the DR-48 as plain data: what every block of the manual owns, the queue of waiting commands, and
the state after power-on reset. The list of fields with their rules and reset values is INVENTORY.md's "State". -/

namespace Sys2Proof.Machine

/-- A rider key, 1 to 4,294,967,295 (R16). -/
abbrev Key := Word

/-- A dock number, 0 to 47. -/
abbrev DockNo := Fin 48

/-! ## Dock descriptors and dock contexts (chapter 3) -/

/-- Descriptor kind (3.1). -/
inductive DockKind
  | empty | standard | ebike
  deriving DecidableEq, Repr

/-- Descriptor islanded mode (3.1). -/
inductive IslandedMode
  | mask | close
  deriving DecidableEq, Repr

/-- A row of the live DOCK table (3.1). -/
structure DockDesc where
  kind : DockKind
  /-- 0 to 31; 0 means not polled -/
  aliasNo : Byte
  minLevel : Fin 4
  localMask : BitVec 4
  islandedMask : BitVec 4
  mode : IslandedMode
  deriving DecidableEq, Repr

/-- The ten dock states (3.3). -/
inductive DockState
  | unpolled | unseen | absent | vacant | holding | checking | opening | opened | closed | faulted
  deriving DecidableEq, Repr

/-- The bike present field (3.2). -/
inductive Presence
  | unknown | absent | present
  deriving DecidableEq, Repr

/-- The latch field (3.2). -/
inductive Latch
  | unknown | opened | closed
  deriving DecidableEq, Repr

/-- The two action orders (3.5). -/
inductive Order
  | unlatch | relatch
  deriving DecidableEq, Repr

/-- The reasons of the reason table of 10.7. -/
inductive Reason
  | noBike | dockBusy | dockClosed | stationFull | malformed | keyAbsent | badTag | wrongStation | wrongDock | expired
  | early | blocked | riderPending | replay | stale | classLow | ebikeNotAllowed | atLimit | epochUnknown | notPermitted
  | tableFull | noAnswer | backendDeny
  deriving DecidableEq, Repr

/-- An indicator value (R54); `detail` is the verdict's reason code for BACKEND_DENY and 0 for every other reason. -/
inductive Indicator
  | dark | green | amber
  | red (reason : Reason) (detail : Byte)
  deriving DecidableEq, Repr

/-- The relatch owed mark (R53). -/
structure Owed where
  release : Half
  rider : Option Key
  charged : Bool
  deriving DecidableEq, Repr

/-- A dock context (3.2), with the unreported-refusal count that the Dock Table holds beside it (R79). -/
structure DockContext where
  state : DockState
  bikePresent : Presence
  latch : Latch
  bikeId : Option Word
  order : Option Order
  serial : Byte
  tries : Nat
  indicator : Indicator
  unsent : Bool
  missCount : Nat
  crcErrors : Nat
  owed : Option Owed
  record : Option Half
  unreported : Nat
  deriving DecidableEq, Repr

/-! ## Class, key and parameter tables (chapter 9, R150) -/

/-- A row of the Class Table (R70). -/
structure ClassRow where
  limit : Nat
  ebike : Bool
  charge : Bool
  deriving DecidableEq, Repr

/-- A row of the Key Table (1.2). -/
structure KeyRow where
  valid : Bool
  k0 : Word
  k1 : Word
  k2 : Word
  k3 : Word
  k4 : Word
  deriving DecidableEq, Repr

/-- A string range of the PARAM table: first dock 255 = unused (R42, R150). -/
structure StringRange where
  first : Byte
  last : Byte
  deriving DecidableEq, Repr

/-- The PARAM table; times in seconds (R150). -/
structure Params where
  presenceTimeout : Nat
  referralTimeout : Nat
  liftTimeout : Nat
  epochLength : Nat
  rangeA : StringRange
  rangeB : StringRange
  deriving DecidableEq, Repr

/-! ## Rider Table and Block List (chapter 2) -/

/-- A rider entry (2.1); `used` lists the used set from top downward. -/
structure RiderEntry where
  key : Key
  cls : Fin 4
  allowance : Nat
  bikesOut : Nat
  review : Bool
  pinned : Bool
  provisional : Bool
  dropPending : Bool
  top : Option Half
  used : List Half
  lastUse : Half
  deriving DecidableEq, Repr

/-- A bucket: four ways, each an entry or empty (2.1). -/
abbrev Bucket := Vector (Option RiderEntry) 4

/-- A Block List entry (R35). -/
structure BlockEntry where
  key : Key
  expiry : Half
  deriving DecidableEq, Repr

/-! ## Release List (chapter 5) -/

/-- A record's state (R81). -/
inductive RecState
  | referred | opening | opened
  deriving DecidableEq, Repr

/-- A grant's source (R81). -/
inductive Source
  | localGrant | islanded | central | fallback | remote
  deriving DecidableEq, Repr

/-- A record's timer with its remaining ticks (R85). -/
inductive RecTimer
  | none
  | referral (ticks : Nat)
  | lift (ticks : Nat)
  deriving DecidableEq, Repr

/-- A Release List record (R81). -/
structure Record where
  number : Half
  dock : DockNo
  rider : Option Key
  state : RecState
  source : Option Source
  cond : Option (Fin 4)
  cls : Option (Fin 4)
  seq : Option Half
  charged : Bool
  counted : Bool
  bikeId : Option Word
  timer : RecTimer
  deriving DecidableEq, Repr

/-! ## Table Loader (chapter 9) -/

/-- The load state (R149). -/
inductive LoadState
  | idle | opened | waitingEpoch
  deriving DecidableEq, Repr

/-- The four indexed tables (R150). -/
inductive TableId
  | dock | cls | key | param
  deriving DecidableEq, Repr

/-- The loader's state for window loads (R149); `staging` pairs row numbers, ascending, with staged words. -/
structure Loader where
  state : LoadState
  table : Option TableId
  window : Option (Nat × Nat)
  defer : Bool
  rowCounter : Nat
  buffer : List Word
  sealSum : Word
  completed : Nat
  short : Bool
  staging : List (Nat × List Word)
  deriving DecidableEq, Repr

/-- The kind of a batch (R162). -/
inductive BatchKind
  | rider | block
  deriving DecidableEq, Repr

/-- A record of a batch, its eight bytes read under R182. -/
structure BatchRecord where
  kind : Byte
  key : Key
  b5 : Byte
  b6 : Byte
  b7 : Byte
  deriving DecidableEq, Repr

/-- A batch in progress (R162); the index of the next record is `next`. -/
structure Batch where
  kind : BatchKind
  number : Half
  records : List BatchRecord
  next : Nat
  applied : Nat
  deriving DecidableEq, Repr

/-! ## String Masters (chapter 8) -/

/-- The line state (R130). -/
inductive LineState
  | idle | polling | clearing | recovering
  deriving DecidableEq, Repr

/-- The kind of an exchange (R133). -/
inductive PollKind
  | ordinary | pass
  deriving DecidableEq, Repr

/-- The exchange in flight (R130). `discarded` is the model's own field: a commit has decided that the reply is discarded
when the window closes (R147). -/
structure Exchange where
  dock : DockNo
  aliasSent : Byte
  kind : PollKind
  serial : Option Byte
  discarded : Bool
  deriving DecidableEq, Repr

/-- A head pass in its slot (R130). -/
structure HeadPass where
  dock : DockNo
  payload : List Byte
  deriving DecidableEq, Repr

/-- A String Master (R130). `driverEnable` is the pin SADE or SBDE; `pulses` counts the break pulses of a recovery still to
end; `recoveryTimer` is the time left in ms; `pollLine` is the model's view of SATX or SBTX: the characters of the last
poll sent. -/
structure StringMaster where
  line : LineState
  cycle : Fin 8
  position : Option DockNo
  exchange : Option Exchange
  headPass : Option HeadPass
  stuck : Nat
  recoveryTimer : Option Nat
  pulses : Nat
  driverEnable : Bool
  pollLine : List Byte
  deriving DecidableEq, Repr

/-! ## Uplink frames (chapter 10) -/

/-- RELEASE_REPORT outcomes (R102). -/
inductive RelOutcome
  | lifted | returnedUnused | timedOut | lateLift | withdrawn | fault | abandoned | settledRefused
  deriving DecidableEq, Repr

/-- The actions of a DOCK_ORDER (3.8). -/
inductive OrderAction
  | release | relatch | outOfService | inService
  deriving DecidableEq, Repr

/-- The detail of a RELEASE_REPORT (R102). -/
inductive ReportDetail
  | nothing
  | withdrawnBy (action : OrderAction)
  | unlatchFailed
  | headFault (code : Byte)
  | dockAbsent
  | refusedWith (reason : Reason)
  deriving DecidableEq, Repr

/-- A RELEASE_REPORT (R102). -/
structure ReleaseReport where
  number : Half
  dock : DockNo
  outcome : RelOutcome
  rider : Option Key
  source : Option Source
  cond : Option (Fin 4)
  cls : Option (Fin 4)
  seq : Option Half
  charged : Bool
  counted : Bool
  bikeId : Option Word
  detail : ReportDetail
  deriving DecidableEq, Repr

/-- What a DOCK_EVENT tells (R46 to R49, R56). -/
inductive DockEvent
  | present (latchClosed bikeThere : Bool) (bikeId : Option Word)
  | absent
  | docked (bikeId : Option Word)
  | forcedLift (bikeId : Option Word)
  | headFault (code : Byte)
  deriving DecidableEq, Repr

/-- ORDER_REPLY outcomes (R57). -/
inductive OrderOutcome
  | done | refusedState | noRoom | notPolled | badDock | badAction
  deriving DecidableEq, Repr

/-- LOAD_REPLY outcomes (R160). -/
inductive LoadOutcome
  | opened | badWindow | loaderBusy | notOpen | badRows | sumMismatch | range | aliasClash | dockInUse | committed
  | committedShort | deferred | aborted
  deriving DecidableEq, Repr

/-- BATCH_REPLY stop reasons (R162, R163). -/
inductive StopReason
  | none | batchBusy | badBatch | bucketFull | listFull | badKey | badRecord
  deriving DecidableEq, Repr

/-- HEAD_REPLY outcomes (R143 to R146). -/
inductive HeadOutcome
  | done | noDock | badLength | busy | noReply
  deriving DecidableEq, Repr

/-- STATION_STATE causes (R180). -/
inductive StateCause
  | powerOn | full | runtimeReset | online
  deriving DecidableEq, Repr

/-- The station condition (R105). -/
inductive Condition
  | online | islanded
  deriving DecidableEq, Repr

/-- A STATION_STATE body (R179). -/
structure StationReport where
  cause : StateCause
  stationCode : BitVec 12
  condition : Condition
  epochValid : Bool
  epoch : Half
  behindMarks : Nat
  closeMismatch : Nat
  badFrames : Nat
  foreignFrames : Nat
  drops : Nat
  loadState : LoadState
  recordCount : Nat
  aborted : Nat
  discarded : Nat
  islandedSeconds : Nat
  islandedGrants : Nat
  deriving DecidableEq, Repr

/-- An uplink frame: its kind and the fields of its body (R102, 10.4, 10.7). -/
inductive Uplink
  | referral (number : Half) (dock : DockNo) (rider : Key) (cls cond : Fin 4) (seq : Half) (unchecked : Bool)
  | tapRefused (dock : DockNo) (reason : Reason) (rider : Key) (seq : Half) (cond : Option (Fin 4))
  | releaseReport (r : ReleaseReport)
  | dockEvent (dock : DockNo) (e : DockEvent)
  | lateNotice (number : Half) (dock : Byte) (rider : Key) (grant : Bool) (reason : Byte) (hadAllowance : Bool)
  | orderReply (dock action : Byte) (outcome : OrderOutcome) (state : DockState) (release : Option Half)
  | loadReply (held : Option (TableId × Nat × Nat)) (outcome : LoadOutcome) (completed : Nat)
  | batchReply (kind : BatchKind) (number : Half) (applied : Nat) (stop : StopReason) (key : Key)
  | headReply (dock : Byte) (outcome : HeadOutcome) (payload : List Byte)
  | queryReply (target : Byte) (bad : Bool) (first : Half) (count : Nat) (nextIndex : Option Nat) (items : List Byte)
  | stationState (r : StationReport)
  deriving DecidableEq, Repr

/-- The transmitter and LTXD (R167, R176, R178). -/
inductive Transmitter
  /-- RESETN low: LTXD stands at the stop-bit level -/
  | held
  /-- no frame being sent: LTXD carries FFh fill -/
  | fill
  /-- a frame being sent, with the bytes LTXD carries for it -/
  | sending (frame : Uplink) (bytes : List Byte)
  deriving DecidableEq, Repr

/-- The states of the receive deframer (10.2). -/
inductive RxStage
  | hunt | length | code | kind | body | crc
  deriving DecidableEq, Repr

/-- The receive deframer: its state, the body length once both length bytes are in, and the bytes of the frame in assembly
since the start byte (10.2). -/
structure Deframer where
  stage : RxStage
  len : Nat
  got : List Byte
  deriving DecidableEq, Repr

/-! ## The station -/

/-- The whole state of the part and the queue of commands waiting for it. -/
structure State where
  /-- RESETN is low: the part is held (R178) -/
  resetnLow : Bool
  /-- the straps as last sampled (R9) -/
  stationCode : BitVec 12
  deframer : Deframer
  /-- the Uplink Queue, oldest first (R175) -/
  uplink : List Uplink
  transmitter : Transmitter
  /-- the model's view of what has left on LTXD: the frame last taken as sent (R176) -/
  lastSent : Option Uplink
  badFrames : Nat
  foreignFrames : Nat
  drops : Nat
  /-- the presence timer in ticks; none when stopped (R106) -/
  presence : Option Nat
  condition : Condition
  islandedTime : Nat
  islandedGrants : Nat
  epochValid : Bool
  epoch : Half
  /-- the local epoch timer in ticks; none when stopped (R123) -/
  epochTimer : Option Nat
  behindMarks : Nat
  loader : Loader
  batch : Option Batch
  stringA : StringMaster
  stringB : StringMaster
  params : Params
  descs : Vector DockDesc 48
  ctxs : Vector DockContext 48
  classes : Vector ClassRow 4
  keys : Vector KeyRow 4
  riders : Vector Bucket 1024
  closeMismatch : Nat
  /-- the Block List in ascending key order (R35) -/
  blocks : List BlockEntry
  /-- the Release List, oldest first (R81) -/
  records : List Record
  nextNumber : Half
  /-- the commands waiting, first in, first out (the model's own) -/
  pending : List Instr
  deriving DecidableEq, Repr

/-- The reasons a step can stop with a fault: there are none. The manual gives every command an effect, gives the part no
address space and names no condition that stops it, so no meaning raises a fault (safe). -/
inductive Fault where
  deriving DecidableEq, Repr

/-- The reasons a step can be refused. -/
inductive Refusal
  /-- raised by an arm of `exec` whose command has no meaning yet, with its mnemonic; no arm raises it (safe) -/
  | notModelled (mnemonic : String)
  deriving DecidableEq, Repr

/-! ## Power-on state -/

/-- A dock descriptor after power-on (R41). -/
def DockDesc.blank : DockDesc :=
  { kind := .empty, aliasNo := 0, minLevel := 0, localMask := 0, islandedMask := 0, mode := .mask }

/-- A dock context after power-on (R43, R79). -/
def DockContext.blank : DockContext :=
  { state := .unpolled, bikePresent := .unknown, latch := .unknown, bikeId := none, order := none, serial := 0, tries := 0,
    indicator := .dark, unsent := false, missCount := 0, crcErrors := 0, owed := none, record := none, unreported := 0 }

/-- A class row after power-on (R150). -/
def ClassRow.blank : ClassRow := { limit := 0, ebike := false, charge := false }

/-- A key row after power-on (R3). -/
def KeyRow.blank : KeyRow := { valid := false, k0 := 0, k1 := 0, k2 := 0, k3 := 0, k4 := 0 }

/-- The PARAM defaults (R150). -/
def Params.initial : Params :=
  { presenceTimeout := 30, referralTimeout := 4, liftTimeout := 20, epochLength := 600,
    rangeA := { first := 0, last := 23 }, rangeB := { first := 24, last := 47 } }

/-- The loader after every reset (R149; row counter and defer flag: log entry 12). -/
def Loader.initial : Loader :=
  { state := .idle, table := none, window := none, defer := false, rowCounter := 0, buffer := [], sealSum := 0,
    completed := 0, short := false, staging := [] }

/-- A String Master after power-on (R148). -/
def StringMaster.initial : StringMaster :=
  { line := .idle, cycle := 0, position := none, exchange := none, headPass := none, stuck := 0, recoveryTimer := none,
    pulses := 0, driverEnable := false, pollLine := [] }

/-- The deframer after power-on (R168). -/
def Deframer.initial : Deframer := { stage := .hunt, len := 0, got := [] }

/-- The STATION_STATE that power-on queues (R178, R179, R180). -/
def StationReport.powerOn (straps : BitVec 12) : StationReport :=
  { cause := .powerOn, stationCode := straps, condition := .islanded, epochValid := false, epoch := 0, behindMarks := 0,
    closeMismatch := 0, badFrames := 0, foreignFrames := 0, drops := 0, loadState := .idle, recordCount := 0, aborted := 0,
    discarded := 0, islandedSeconds := 0, islandedGrants := 0 }

/-- The machine right after power-on reset (R3, R34, R40, R41, R43, R104, R117, R128, R148, R149, R150, R168, R178, R181).
The straps are an input; here they are taken as 0 (log entry 1). The queue of commands is empty. -/
def State.reset : State :=
  { resetnLow := false, stationCode := 0, deframer := .initial, uplink := [.stationState (.powerOn 0)],
    transmitter := .fill, lastSent := none, badFrames := 0, foreignFrames := 0, drops := 0, presence := none,
    condition := .islanded, islandedTime := 0, islandedGrants := 0, epochValid := false, epoch := 0, epochTimer := none,
    behindMarks := 0, loader := .initial, batch := none, stringA := .initial, stringB := .initial, params := .initial,
    descs := .replicate 48 .blank, ctxs := .replicate 48 .blank, classes := .replicate 4 .blank,
    keys := .replicate 4 .blank, riders := .replicate 1024 (.replicate 4 none), closeMismatch := 0, blocks := [],
    records := [], nextNumber := 0, pending := [] }

end Sys2Proof.Machine
end

