-- ==== Sys2Proof/Machine/Operands.lean ====
section
/-! DEFINITION. The layouts of 10.7 that the part reads: downlink kinds and bodies, the token, dock replies, batch records, row
items, table rows (R182). -/

namespace Sys2Proof.Machine

/-! ## Codes -/

/-- The fourteen downlink kinds (10.7). -/
inductive DownKind
  | verdict | credit | closeRide | loadOpen | loadRows | loadSeal | loadAbort | riderBatch | blockBatch | epochMark
  | dockOrder | headPass | query | stationReset
  deriving DecidableEq, Repr

/-- The kind code of a downlink kind (10.7). -/
def downCode : DownKind → Byte
  | .verdict => 0x01 | .credit => 0x02 | .closeRide => 0x03 | .loadOpen => 0x04 | .loadRows => 0x05 | .loadSeal => 0x06
  | .loadAbort => 0x07 | .riderBatch => 0x08 | .blockBatch => 0x09 | .epochMark => 0x0A | .dockOrder => 0x0B
  | .headPass => 0x0C | .query => 0x0D | .stationReset => 0x0E

/-- The downlink kind of a kind code; none for an unknown kind (10.7). -/
def downKindOf (code : Byte) : Option DownKind :=
  match code.toNat with
  | 1 => some .verdict | 2 => some .credit | 3 => some .closeRide | 4 => some .loadOpen | 5 => some .loadRows
  | 6 => some .loadSeal | 7 => some .loadAbort | 8 => some .riderBatch | 9 => some .blockBatch | 10 => some .epochMark
  | 11 => some .dockOrder | 12 => some .headPass | 13 => some .query | 14 => some .stationReset
  | _ => none

/-- The body length of a fixed-length kind; none for the variable-length kinds (R172, 10.7). -/
def fixedLength : DownKind → Option Nat
  | .verdict => some 11 | .credit => some 5 | .closeRide => some 4 | .loadOpen => some 4 | .loadSeal => some 6
  | .loadAbort => some 0 | .epochMark => some 2 | .dockOrder => some 2 | .query => some 5 | .stationReset => some 1
  | .loadRows => none | .riderBatch => none | .blockBatch => none | .headPass => none

/-- The fit of an accepted frame's body (R172). -/
def fits (k : DownKind) (body : List Byte) : Bool :=
  (match fixedLength k with
    | some n => body.length == n
    | none => true) &&
  (match k with
    | .verdict => byteAt body 7 == 0 || byteAt body 7 == 1
    | .stationReset => byteAt body 0 == 1 || byteAt body 0 == 2
    | .headPass => !body.isEmpty
    | _ => true)

/-- The dock of a dock-number byte; none above 47. -/
def dockOfByte (b : Byte) : Option DockNo := if h : b.toNat < 48 then some ⟨b.toNat, h⟩ else none

/-- The action of a DOCK_ORDER's action code (10.7). -/
def actionOf (code : Byte) : Option OrderAction :=
  match code.toNat with
  | 1 => some .release | 2 => some .relatch | 3 => some .outOfService | 4 => some .inService
  | _ => none

/-- The table of a LOAD_OPEN's table code (10.7). -/
def tableOf (code : Byte) : Option TableId :=
  match code.toNat with
  | 1 => some .dock | 2 => some .cls | 3 => some .key | 4 => some .param
  | _ => none

/-- Rows of an indexed table (R150). -/
def tableRows : TableId → Nat
  | .dock => 48 | .cls => 4 | .key => 4 | .param => 6

/-- Words per row of an indexed table (R150). -/
def wordsPerRow : TableId → Nat
  | .dock => 2 | .cls => 1 | .key => 6 | .param => 1

/-! ## The token (1.1) -/

/-- A token as fields (R1). -/
structure Token where
  w0 : Word
  w1 : Word
  w2 : Word
  w3 : Word
  tag : Word
  deriving DecidableEq, Repr

/-- The token of its bytes, four at a time (1.1). -/
def tokenOf (bs : List Byte) : Token :=
  { w0 := wordAt bs 0, w1 := wordAt bs 4, w2 := wordAt bs 8, w3 := wordAt bs 12, tag := wordAt bs 16 }

/-- Rider key: W0. -/
def Token.rider (t : Token) : Key := t.w0

/-- Sequence: W1, upper half. -/
def Token.seq (t : Token) : Half := t.w1.extractLsb' 16 16

/-- Issue epoch: W1, lower half. -/
def Token.issue (t : Token) : Half := t.w1.extractLsb' 0 16

/-- Key slot: W2, top byte. -/
def Token.slot (t : Token) : Byte := t.w2.extractLsb' 24 8

/-- Claimed class: W2, second byte. -/
def Token.claimed (t : Token) : Byte := t.w2.extractLsb' 16 8

/-- Span: W2, third byte. -/
def Token.span (t : Token) : Byte := t.w2.extractLsb' 8 8

/-- Spare: W2, bottom byte. -/
def Token.spare (t : Token) : Byte := t.w2.extractLsb' 0 8

/-- Station scope: W3, upper half. -/
def Token.stationScope (t : Token) : Half := t.w3.extractLsb' 16 16

/-- Dock scope: W3, lower half. -/
def Token.dockScope (t : Token) : Half := t.w3.extractLsb' 0 16

/-- The claimed class of a token that has passed the form check (R2, R13). -/
def Token.cls (t : Token) : Fin 4 := Fin.ofNat 4 t.claimed.toNat

/-- The key row named by a token that has passed the form check (R4). -/
def Token.keySlot (t : Token) : Fin 4 := Fin.ofNat 4 t.slot.toNat

/-! ## Dock replies (8.4, 10.7) -/

/-- The event of an ORDINARY reply (R136). -/
inductive ReplyEvent
  | nothing
  | tap (token : Token)
  | lift
  | docked
  | fault (code : Byte)
  deriving DecidableEq, Repr

/-- A good ORDINARY reply (R136). -/
structure Reply where
  bike : Bool
  latchClosed : Bool
  bikeId : Option Word
  serial : Byte
  event : ReplyEvent
  deriving DecidableEq, Repr

/-- The length of a reply, as its own fields give it: the PASS layout when bit 7 of the control byte is set, the ORDINARY
layout otherwise; none while the fields that give it have not come, or when the event code is none of the five (R135). -/
def replyLength (rx : List Byte) : Option Nat :=
  if rx.length < 3 then none
  else if (byteAt rx 1).getLsbD 7 then some (5 + (byteAt rx 2).toNat)
  else if rx.length < 4 then none
  else
    let id := if (byteAt rx 1).getLsbD 2 then 4 else 0
    match (byteAt rx 3).toNat with
    | 0 => some (6 + id)
    | 1 => some (26 + id)
    | 2 => some (6 + id)
    | 3 => some (6 + id)
    | 4 => some (7 + id)
    | _ => none

/-- What a reply window brought (R135). -/
inductive Window
  | silent
  | incomplete
  | complete (reply : List Byte)
  deriving DecidableEq, Repr

/-- The outcome of a reply window from the characters that ended within it (R135). -/
def windowOf (rx : List Byte) : Window :=
  if rx.isEmpty then .silent
  else
    match replyLength rx with
    | some n => if n ≤ rx.length then .complete (rx.take n) else .incomplete
    | none => .incomplete

/-- The CRC check of a complete reply (R137 step 1). -/
def replyCrcGood (reply : List Byte) : Bool :=
  crc16 (reply.take (reply.length - 2)) == halfAt reply (reply.length - 2)

/-- The CRC and alias checks of a complete reply against the alias sent (R137 steps 1 and 2). -/
def replyChecks (aliasSent : Byte) (reply : List Byte) : Bool := replyCrcGood reply && byteAt reply 0 == aliasSent

/-- The fields of an ORDINARY reply (R136, 10.7). -/
def replyFields (reply : List Byte) : Reply :=
  let hasId := (byteAt reply 1).getLsbD 2
  let at_ := if hasId then 8 else 4
  { bike := (byteAt reply 1).getLsbD 1
    latchClosed := (byteAt reply 1).getLsbD 0
    bikeId := if hasId then some (wordAt reply 4) else none
    serial := byteAt reply 2
    event :=
      match (byteAt reply 3).toNat with
      | 1 => .tap (tokenOf (reply.drop at_))
      | 2 => .lift
      | 3 => .docked
      | 4 => .fault (byteAt reply at_)
      | _ => .nothing }

/-- The good ORDINARY reply that a window brought, if it brought one (R137). A complete reply's length already fits its
event, so its form fails only by its kind. -/
def goodReply (aliasSent : Byte) (rx : List Byte) : Option Reply :=
  match windowOf rx with
  | .complete reply =>
    if replyChecks aliasSent reply && !(byteAt reply 1).getLsbD 7 then some (replyFields reply) else none
  | _ => none

/-- The payload of the good PASS reply that a window brought, if it brought one: 0 to 24 bytes (R144). -/
def goodPassReply (aliasSent : Byte) (rx : List Byte) : Option (List Byte) :=
  match windowOf rx with
  | .complete reply =>
    if replyChecks aliasSent reply && (byteAt reply 1).getLsbD 7 && decide ((byteAt reply 2).toNat ≤ 24) then
      some ((reply.drop 3).take (byteAt reply 2).toNat)
    else none
  | _ => none

/-! ## Batches and row items (9.3, 9.5, 10.7) -/

/-- One batch record of eight bytes (10.7). -/
def recordOf (bs : List Byte) : BatchRecord :=
  { kind := byteAt bs 0, key := wordAt bs 1, b5 := byteAt bs 5, b6 := byteAt bs 6, b7 := byteAt bs 7 }

/-- The first `n` records of the bytes after a batch body's three-byte head. -/
def recordsOf : Nat → List Byte → List BatchRecord
  | 0, _ => []
  | n + 1, bs => recordOf (bs.take 8) :: recordsOf n (bs.drop 8)

/-- The records of a batch body; none when the body is malformed (R162, 10.7). -/
def batchRecords (body : List Byte) : Option (List BatchRecord) :=
  if body.length < 3 then none
  else
    let n := (byteAt body 2).toNat
    if n ≤ 32 ∧ body.length = 3 + 8 * n then some (recordsOf n (body.drop 3)) else none

/-- The batch number of a batch body: 0 when the body is shorter than two bytes (R162). -/
def batchNumber (body : List Byte) : Half := if body.length < 2 then 0 else halfAt body 0

/-- An item of a LOAD_ROWS body (9.3). -/
inductive RowItem
  | run (words : List Word)
  | skip (count : Nat)
  deriving DecidableEq, Repr

/-- The first `n` words of the bytes. -/
def wordsOf : Nat → List Byte → List Word
  | 0, _ => []
  | n + 1, bs => wordAt bs 0 :: wordsOf n (bs.drop 4)

/-- The items of a LOAD_ROWS body, none when they do not fill it exactly (R152, 10.7); `fuel` bounds their number. -/
def rowItems : Nat → List Byte → Option (List RowItem)
  | _, [] => some []
  | 0, _ :: _ => none
  | fuel + 1, kind :: rest =>
    match rest with
    | [] => none
    | count :: more =>
      if kind = 1 then
        if count = 0 ∨ more.length < 4 * count.toNat then none
        else (rowItems fuel (more.drop (4 * count.toNat))).map (RowItem.run (wordsOf count.toNat more) :: ·)
      else if kind = 2 then (rowItems fuel more).map (RowItem.skip count.toNat :: ·)
      else none

/-! ## Table rows (R157, 10.7) -/

/-- A number clamped to a range. -/
def clamp (lo hi n : Nat) : Nat := max lo (min hi n)

/-- The word of a row's words at an index. -/
def rowWord (ws : List Word) (i : Nat) : Word := ws.getD i 0

/-- Byte `i` of a word, byte 3 the top one. -/
def wordByte (w : Word) (i : Nat) : Byte := w.extractLsb' (8 * i) 8

/-- A staged DOCK row as the commit reads it (R157). -/
def readDockRow (ws : List Word) : DockDesc :=
  let w0 := rowWord ws 0
  let w1 := rowWord ws 1
  { kind := match (wordByte w0 3).toNat with
      | 1 => .standard
      | 2 => .ebike
      | _ => .empty
    aliasNo := if 31 < (wordByte w0 2).toNat then 0 else wordByte w0 2
    minLevel := if 3 < (wordByte w0 1).toNat then 3 else Fin.ofNat 4 (wordByte w0 1).toNat
    localMask := w1.extractLsb' 24 4
    islandedMask := w1.extractLsb' 16 4
    mode := if wordByte w0 0 = 1 then .close else .mask }

/-- A staged CLASS row as the commit reads it (R157). -/
def readClassRow (ws : List Word) : ClassRow :=
  let w := rowWord ws 0
  { limit := min 15 (wordByte w 3).toNat, ebike := wordByte w 2 != 0, charge := wordByte w 1 != 0 }

/-- A staged KEY row as the commit reads it (R157). -/
def readKeyRow (ws : List Word) : KeyRow :=
  { valid := rowWord ws 0 != 0, k0 := rowWord ws 1, k1 := rowWord ws 2, k2 := rowWord ws 3, k3 := rowWord ws 4,
    k4 := rowWord ws 5 }

/-- A staged string range (R157). -/
def readRange (ws : List Word) : StringRange :=
  { first := wordByte (rowWord ws 0) 3, last := wordByte (rowWord ws 0) 2 }

/-- The PARAM table with one staged row laid over it (R150, R157). -/
def overlayParam (p : Params) (row : Nat) (ws : List Word) : Params :=
  let v := (rowWord ws 0).toNat
  match row with
  | 0 => { p with presenceTimeout := clamp 5 120 v }
  | 1 => { p with referralTimeout := clamp 1 15 v }
  | 2 => { p with liftTimeout := clamp 5 60 v }
  | 3 => { p with epochLength := clamp 60 3600 v }
  | 4 => { p with rangeA := readRange ws }
  | 5 => { p with rangeB := readRange ws }
  | _ => p

end Sys2Proof.Machine
end

