-- ==== Sys2Proof/Machine/Flags.lean ====
section
/-! DEFINITION. The conditions the manual computes from the state: polled, member, reduced, due, named, evictable, the shown
indicator, the condition code, room in a list, the current epoch. -/

namespace Sys2Proof.Machine

/-! ## Reading one dock, one class, one string -/

/-- The live descriptor of a dock. -/
def State.desc (s : State) (d : DockNo) : DockDesc := s.descs.get d

/-- The context of a dock. -/
def State.ctx (s : State) (d : DockNo) : DockContext := s.ctxs.get d

/-- The live row of a class. -/
def State.classRow (s : State) (c : Fin 4) : ClassRow := s.classes.get c

/-- The live key row of a slot. -/
def State.keyRow (s : State) (k : Fin 4) : KeyRow := s.keys.get k

/-- A String Master. -/
def State.str (s : State) : StringId → StringMaster
  | .a => s.stringA
  | .b => s.stringB

/-- Every dock number, ascending. -/
def allDocks : List DockNo := List.finRange 48

/-! ## Polled docks and strings (R42, R131) -/

/-- The range of a string. -/
def Params.range (p : Params) : StringId → StringRange
  | .a => p.rangeA
  | .b => p.rangeB

/-- A range holds a dock; a range whose first dock is 255 is unused (R42). -/
def StringRange.holds (r : StringRange) (d : DockNo) : Bool :=
  r.first != 255 && decide (r.first.toNat ≤ d.val) && decide (d.val ≤ r.last.toNat)

/-- The string as whose part the ranges place a dock: A, B or none (R42, R158). -/
def stringOf (p : Params) (d : DockNo) : Option StringId :=
  if p.rangeA.holds d then some .a else if p.rangeB.holds d then some .b else none

/-- The polled condition of a dock on given rows (R42). -/
def polledOn (desc : DockDesc) (p : Params) (d : DockNo) : Bool :=
  desc.kind != .empty && desc.aliasNo != 0 && (stringOf p d).isSome

/-- The polled condition of a dock (R42). -/
def State.polled (s : State) (d : DockNo) : Bool := polledOn (s.desc d) s.params d

/-- A dock is a member of a string (R131). -/
def State.member (s : State) (m : StringId) (d : DockNo) : Bool := s.polled d && stringOf s.params d == some m

/-- The members of a string in ascending dock number (R131, R132). -/
def State.members (s : State) (m : StringId) : List DockNo := allDocks.filter (s.member m)

/-- A reduced member: ABSENT, or its miss count at 8 (R132). -/
def State.reduced (s : State) (d : DockNo) : Bool := (s.ctx d).state == .absent || decide (8 ≤ (s.ctx d).missCount)

/-- A member is due in a cycle (R132). -/
def State.due (s : State) (d : DockNo) (cycle : Fin 8) : Bool := !s.reduced d || cycle == 0

/-! ## Islanding and the shown indicator (R54, R105) -/

/-- The station is islanded. -/
def State.isIslanded (s : State) : Bool := s.condition == .islanded

/-- The shown indicator of a dock (R54). -/
def State.shown (s : State) (d : DockNo) : Indicator :=
  if s.isIslanded && (s.desc d).mode == .close then .dark else (s.ctx d).indicator

/-! ## Room, epoch, names -/

/-- The Uplink Queue has room for one frame (R73, R74, R175). -/
def State.hasRoom (s : State) : Bool := decide (s.uplink.length < 64)

/-- The Release List holds 16 records (R66). -/
def State.listFull (s : State) : Bool := decide (16 ≤ s.records.length)

/-- The current epoch: E while the flag is set, 0 while it is clear (R119). -/
def State.curEpoch (s : State) : Half := if s.epochValid then s.epoch else 0

/-- Some live record carries the rider key (R19). -/
def State.named (s : State) (k : Key) : Bool := s.records.any fun r => r.rider == some k

/-- The record that names a dock (R44). -/
def State.recordAt (s : State) (d : DockNo) : Option Record := s.records.find? fun r => r.dock == d

/-- The live record of a release number (R82). -/
def State.recordNo (s : State) (n : Half) : Option Record := s.records.find? fun r => r.number == n

/-- A rider key is in the Block List (R36). -/
def State.isBlocked (s : State) (k : Key) : Bool := s.blocks.any fun e => e.key == k

/-- An epoch lies at or before another (R39). -/
def atOrBefore (expiry e : Half) : Bool := decide ((e - expiry).toNat < 32768)

/-! ## The condition code and masks (R72, R74, R75) -/

/-- The condition code of a tap (R72). -/
def conditionCode (known : Option RiderEntry) (row : ClassRow) : Fin 4 :=
  match known with
  | none => 2
  | some e => if e.review then 3 else if 0 < e.allowance ∨ row.charge = false then 0 else 1

/-- A mask permits a condition code (3.1). -/
def maskAllows (mask : BitVec 4) (c : Fin 4) : Bool := mask.getLsbD c.val

/-- A station code field matches (R171): its low 12 bits are the strapped code or 4,095, and not 0. -/
def State.codeMatches (s : State) (code : Half) : Bool :=
  let c : BitVec 12 := code.extractLsb' 0 12
  c != 0 && (c == s.stationCode || c == 4095)

end Sys2Proof.Machine
end

