-- ==== Sys2Proof/Machine/Ops.lean ====
section
/-! DEFINITION. The named operations over the state that the families share: offering an uplink frame, changing a dock
context, a String Master, a rider entry, the Release List; and the outcome of a command. -/

namespace Sys2Proof.Machine

/-- The outcome of a command on a part that is not held: the manual gives every command an effect, so the answer is a next
state; while RESETN is low the part stays held and nothing happens (R178, log entry 5). -/
def whenRunning (s : State) (f : State → State) : Host.Outcome State Fault Refusal :=
  .next (if s.resetnLow then s else f s)

/-! ## The Uplink Queue (R175) -/

/-- A frame offered to the Uplink Queue joins its end, or is dropped and counted when 64 frames wait (R175). -/
def State.offer (s : State) (f : Uplink) : State :=
  if s.uplink.length < 64 then { s with uplink := s.uplink ++ [f] } else { s with drops := min 255 (s.drops + 1) }

/-- The bad-frame count rises by 1, saturating (R181). -/
def State.countBad (s : State) : State := { s with badFrames := min 65535 (s.badFrames + 1) }

/-- The foreign-frame count rises by 1, saturating (R181). -/
def State.countForeign (s : State) : State := { s with foreignFrames := min 65535 (s.foreignFrames + 1) }

/-! ## Dock contexts -/

/-- One dock context changed. -/
def State.modCtx (s : State) (d : DockNo) (f : DockContext → DockContext) : State :=
  { s with ctxs := s.ctxs.set d (f (s.ctx d)) }

/-- Every dock context changed by its dock number. -/
def State.mapCtxs (s : State) (f : DockNo → DockContext → DockContext) : State :=
  { s with ctxs := tabulate fun d => f d (s.ctx d) }

/-- An order set in the slot: the serial advances by 1 modulo 256 and the tries are 0 (R50). -/
def DockContext.setOrder (c : DockContext) (o : Order) : DockContext :=
  { c with order := some o, serial := c.serial + 1, tries := 0 }

/-- The order slot emptied: the serial stays and the tries are 0 (R50, R51). -/
def DockContext.withdraw (c : DockContext) : DockContext := { c with order := none, tries := 0 }

/-- The indicator slot set, which marks it unsent (R54). -/
def DockContext.setLight (c : DockContext) (i : Indicator) : DockContext := { c with indicator := i, unsent := true }

/-- The dock moved to a state that no record names: the record field is cleared (R44). -/
def DockContext.moveTo (c : DockContext) (st : DockState) : DockContext := { c with state := st, record := none }

/-- The dock moved to a state that a record names (R44). -/
def DockContext.nameBy (c : DockContext) (st : DockState) (n : Half) : DockContext :=
  { c with state := st, record := some n }

/-- Entry to FAULTED: the order slot is emptied, relatch owed cleared, DARK set (R52). -/
def DockContext.fail (c : DockContext) : DockContext :=
  { ((c.moveTo .faulted).withdraw.setLight .dark) with owed := none }

/-- Bike present, latch and bike id as they are before any good reply (3.2). -/
def DockContext.forgetStatus (c : DockContext) : DockContext :=
  { c with bikePresent := .unknown, latch := .unknown, bikeId := none }

/-! ## String Masters -/

/-- One String Master replaced. -/
def State.setStr (s : State) (m : StringId) (x : StringMaster) : State :=
  match m with
  | .a => { s with stringA := x }
  | .b => { s with stringB := x }

/-! ## The Rider Table (2.1, 2.2) -/

/-- The four ways of a bucket, ascending. -/
def ways : List (Fin 4) := [0, 1, 2, 3]

/-- The bucket of a rider key (R16). -/
def bucketOf (k : Key) : Fin 1024 :=
  ⟨(k ^^^ (k >>> (10 : Nat)) ^^^ (k >>> (20 : Nat))).toNat % 1024, Nat.mod_lt _ (by decide)⟩

/-- A bucket of the Rider Table. -/
def State.bucket (s : State) (b : Fin 1024) : Bucket := s.riders.get b

/-- A way holds the rider key. -/
def holdsKey (k : Key) : Option RiderEntry → Bool
  | some e => e.key == k
  | none => false

/-- The way of a bucket that holds a rider key; key 0 is in none (R17). -/
def wayOf (b : Bucket) (k : Key) : Option (Fin 4) :=
  if k = 0 then none else ways.find? fun w => holdsKey k (b.get w)

/-- The lookup of a rider key (R17). -/
def State.lookup (s : State) (k : Key) : Option RiderEntry :=
  (wayOf (s.bucket (bucketOf k)) k).bind fun w => (s.bucket (bucketOf k)).get w

/-- One way of one bucket replaced. -/
def State.setWay (s : State) (b : Fin 1024) (w : Fin 4) (x : Option RiderEntry) : State :=
  { s with riders := s.riders.set b ((s.bucket b).set w x) }

/-- The entry of a rider key changed, if there is one. -/
def State.modRider (s : State) (k : Key) (f : RiderEntry → RiderEntry) : State :=
  match wayOf (s.bucket (bucketOf k)) k with
  | none => s
  | some w => s.setWay (bucketOf k) w (((s.bucket (bucketOf k)).get w).map f)

/-- The entry of a rider key removed, if there is one. -/
def State.dropRider (s : State) (k : Key) : State :=
  match wayOf (s.bucket (bucketOf k)) k with
  | none => s
  | some w => s.setWay (bucketOf k) w none

/-- The entries of the Rider Table, counted (R166). -/
def State.riderCount (s : State) : Nat :=
  (s.riders.toList.map fun b => (b.toList.filter Option.isSome).length).sum

/-! ## Allowance and bikes-out (R28, R29) -/

/-- Bikes-out rises by 1, saturating at 15 (R29). -/
def RiderEntry.bikeOut (e : RiderEntry) : RiderEntry := { e with bikesOut := min 15 (e.bikesOut + 1) }

/-- Bikes-out falls by 1, held at 0 (R29). -/
def RiderEntry.bikeIn (e : RiderEntry) : RiderEntry := { e with bikesOut := e.bikesOut - 1 }

/-- A charge: allowance falls by 1, held at 0 (R28). -/
def RiderEntry.takeCharge (e : RiderEntry) : RiderEntry := { e with allowance := e.allowance - 1 }

/-- Allowance rises by an amount, saturating at 63 (R28, R30). -/
def RiderEntry.addAllowance (e : RiderEntry) (n : Nat) : RiderEntry := { e with allowance := min 63 (e.allowance + n) }

/-- Allowance replaced, clamped to 63 (R28, R32). -/
def RiderEntry.setAllowance (e : RiderEntry) (n : Nat) : RiderEntry := { e with allowance := min 63 n }

/-- A grant recorded against the rider: bikes-out rises and last-use is the current epoch (R24, R29). -/
def RiderEntry.granted (e : RiderEntry) (now : Half) : RiderEntry := { e.bikeOut with lastUse := now }

/-! ## The Release List (R81, R82) -/

/-- The first candidate, from `c` upward modulo 65,536, that no live record holds; `fuel` bounds the candidates (R82). -/
def freeNumber (held : List Half) : Nat → Half → Half
  | 0, c => c
  | fuel + 1, c => if c ∈ held then freeNumber held fuel (c + 1) else c

/-- The release number a new record takes (R82). -/
def State.newNumber (s : State) : Half := freeNumber (s.records.map Record.number) s.records.length s.nextNumber

/-- A record joins the end of the list and the next-number counter passes its number (R81, R82). -/
def State.addRecord (s : State) (r : Record) : State :=
  { s with records := s.records ++ [r], nextNumber := r.number + 1 }

/-- The record of a release number leaves the list (R81). -/
def State.eraseRecord (s : State) (n : Half) : State :=
  { s with records := s.records.filter fun r => r.number != n }

/-- The record of a release number replaced in its place. -/
def State.modRecord (s : State) (n : Half) (f : Record → Record) : State :=
  { s with records := s.records.map fun r => if r.number = n then f r else r }

/-- The drop-pending test made after a record's removal (R23). -/
def State.dropTest (s : State) (rider : Option Key) : State :=
  match rider with
  | none => s
  | some k =>
    match s.lookup k with
    | some e => if e.dropPending && !s.named k then s.dropRider k else s
    | none => s

end Sys2Proof.Machine
end

