-- ==== Sys2Proof/Machine/Riders.lean ====
section
/-! DEFINITION. The Rider Table: insert and eviction, the sequence window, provisional creation, CREDIT and CLOSE_RIDE
(chapter 2). -/

namespace Sys2Proof.Machine

/-! ## Insert and eviction (2.2) -/

/-- An entry may be evicted (R19). -/
def State.evictable (s : State) (e : RiderEntry) : Bool := !e.pinned && !s.named e.key && e.bikesOut == 0

/-- The eviction age of an entry (R19). -/
def State.ageOf (s : State) (e : RiderEntry) : Nat := (s.curEpoch - e.lastUse).toNat

/-- The age of the entry in a way; 0 for an empty way. -/
def State.wayAge (s : State) (b : Bucket) (w : Fin 4) : Nat :=
  match b.get w with
  | some e => s.ageOf e
  | none => 0

/-- The way of greatest age, the lowest way number among equals (R19). -/
def State.oldest (s : State) (b : Bucket) : List (Fin 4) → Option (Fin 4)
  | [] => none
  | w :: rest =>
    match s.oldest b rest with
    | none => some w
    | some v => if s.wayAge b w < s.wayAge b v then some v else some w

/-- The ways of a bucket whose entry meets a test. -/
def waysWhere (b : Bucket) (p : RiderEntry → Bool) : List (Fin 4) :=
  ways.filter fun w => (b.get w).any p

/-- The way an insert evicts from a full bucket, if there is one (R19). -/
def State.evictWay (s : State) (b : Bucket) : Option (Fin 4) :=
  let provisional := waysWhere b fun e => s.evictable e && e.provisional
  s.oldest b (if provisional.isEmpty then waysWhere b s.evictable else provisional)

/-- The way an insert into a bucket takes: the lowest empty way, else the way it evicts (R18). -/
def State.insertWay (s : State) (b : Bucket) : Option (Fin 4) :=
  match ways.find? fun w => (b.get w).isNone with
  | some w => some w
  | none => s.evictWay b

/-- The insert of a new entry; none when it fails (R18). No entry ever holds key 0 (R17). -/
def State.insertRider (s : State) (e : RiderEntry) : Option State :=
  if e.key = 0 then none
  else (s.insertWay (s.bucket (bucketOf e.key))).map fun w => s.setWay (bucketOf e.key) w (some e)

/-- The entry a provisional creation inserts (R27). -/
def provisionalEntry (k : Key) (cls : Fin 4) (seq now : Half) : RiderEntry :=
  { key := k, cls := cls, allowance := 0, bikesOut := 0, review := false, pinned := false, provisional := true,
    dropPending := false, top := some seq, used := [seq], lastUse := now }

/-- A provisional creation; none when its insert fails (R27). -/
def State.createProvisional (s : State) (k : Key) (cls : Fin 4) (seq : Half) : Option State :=
  s.insertRider (provisionalEntry k cls seq s.curEpoch)

/-! ## The sequence window (2.4) -/

/-- The judgement of a sequence (R25). -/
inductive SeqJudgement
  | accepted (top : Half) (used : List Half)
  | replay
  | stale
  deriving DecidableEq, Repr

/-- A number joins a used set that is listed from `top` downward. -/
def joinUsed (top n : Half) : List Half → List Half
  | [] => [n]
  | m :: rest => if (top - n).toNat < (top - m).toNat then n :: m :: rest else m :: joinUsed top n rest

/-- Sequence `n` judged against a window (R25). -/
def judgeSeq (top : Option Half) (used : List Half) (n : Half) : SeqJudgement :=
  match top with
  | none => .accepted n [n]
  | some t =>
    let d := (n - t).toNat
    if d = 0 then .replay
    else if d ≤ 32767 then .accepted n (n :: used.filter fun m => decide ((n - m).toNat ≤ 15))
    else if 65536 - d ≤ 15 then (if n ∈ used then .replay else .accepted t (joinUsed t n used))
    else .stale

/-- The entry with its window replaced (R25, R26). -/
def RiderEntry.setWindow (e : RiderEntry) (top : Half) (used : List Half) : RiderEntry :=
  { e with top := some top, used := used }

/-! ## CREDIT and CLOSE_RIDE (R30, R31) -/

/-- An accepted and fitting CREDIT (R30). -/
def takeCredit (body : List Byte) (s : State) : State :=
  s.modRider (wordAt body 0) fun e => e.addAllowance (byteAt body 4).toNat

/-- An accepted and fitting CLOSE_RIDE (R31). -/
def takeCloseRide (body : List Byte) (s : State) : State :=
  match s.lookup (wordAt body 0) with
  | none => s
  | some e =>
    if 0 < e.bikesOut then s.modRider (wordAt body 0) RiderEntry.bikeIn
    else { s with closeMismatch := min 255 (s.closeMismatch + 1) }

end Sys2Proof.Machine
end

