-- ==== Sys2Proof/Machine/Batch.lean ====
section
/-! DEFINITION. The batch slot: taking a RIDER_BATCH or a BLOCK_BATCH, the application of one PUT, DROP, ADD or REMOVE record,
the end of a batch (R21, R22, R37, R38, 9.5). -/

namespace Sys2Proof.Machine

/-! ## Replies (R162, R163) -/

/-- The batch leaves the slot and its BATCH_REPLY is queued (R163). -/
def State.endBatch (s : State) (b : Batch) (applied : Nat) (stop : StopReason) (key : Key) : State :=
  { s with batch := none }.offer (.batchReply b.kind b.number applied stop key)

/-! ## Taking a batch (R162) -/

/-- An accepted RIDER_BATCH or BLOCK_BATCH (R162). DESIGN CHOICE: the slot is judged before the body (log entry 44). -/
def takeBatch (kind : BatchKind) (body : List Byte) (s : State) : State :=
  if s.batch.isSome then s.offer (.batchReply kind (batchNumber body) 0 .batchBusy 0)
  else
    match batchRecords body with
    | none => s.offer (.batchReply kind (batchNumber body) 0 .badBatch 0)
    | some [] => s.offer (.batchReply kind (batchNumber body) 0 .none 0)
    | some (r :: rs) =>
      { s with batch := some { kind := kind, number := batchNumber body, records := r :: rs, next := 0, applied := 0 } }

/-! ## One record (R21, R22, R37, R38) -/

/-- The class of a PUT, clamped to 3 (R21). -/
def BatchRecord.cls (r : BatchRecord) : Fin 4 := if 3 < r.b5.toNat then 3 else Fin.ofNat 4 r.b5.toNat

/-- A PUT of a present entry: class, allowance and flags replaced, provisional and drop-pending cleared (R21). -/
def RiderEntry.putOver (e : RiderEntry) (r : BatchRecord) : RiderEntry :=
  { e with cls := r.cls, allowance := min 63 r.b6.toNat, review := r.b7.getLsbD 0, pinned := r.b7.getLsbD 1,
           provisional := false, dropPending := false }

/-- The entry that a PUT of an absent key inserts (R21). -/
def BatchRecord.newEntry (r : BatchRecord) (now : Half) : RiderEntry :=
  { key := r.key, cls := r.cls, allowance := min 63 r.b6.toNat, bikesOut := 0, review := r.b7.getLsbD 0,
    pinned := r.b7.getLsbD 1, provisional := false, dropPending := false, top := none, used := [], lastUse := now }

/-- A PUT of a rider key that is not 0 (R21). -/
def State.putRider (s : State) (r : BatchRecord) : Except StopReason State :=
  if (s.lookup r.key).isSome then .ok (s.modRider r.key fun e => e.putOver r)
  else
    match s.insertRider (r.newEntry s.curEpoch) with
    | some s => .ok s
    | none => .error .bucketFull

/-- The drop-pending flag set. -/
def RiderEntry.markDrop (e : RiderEntry) : RiderEntry := { e with dropPending := true }

/-- A DROP of a rider key that is not 0 (R22). -/
def State.dropRecord (s : State) (r : BatchRecord) : Except StopReason State :=
  .ok (if s.named r.key then s.modRider r.key RiderEntry.markDrop else s.dropRider r.key)

/-- A new entry placed in key order, or the expiry of a listed key replaced (R35, R37). -/
def listKey (k : Key) (expiry : Half) : List BlockEntry → List BlockEntry
  | [] => [{ key := k, expiry := expiry }]
  | e :: rest =>
    if e.key = k then { e with expiry := expiry } :: rest
    else if k < e.key then { key := k, expiry := expiry } :: e :: rest
    else e :: listKey k expiry rest

/-- The expiry epoch of an ADD (10.7). -/
def BatchRecord.expiry (r : BatchRecord) : Half := joinHalf r.b5 r.b6

/-- An ADD of a rider key that is not 0 (R37). -/
def State.addRecordKey (s : State) (r : BatchRecord) : Except StopReason State :=
  if s.isBlocked r.key = false ∧ 512 ≤ s.blocks.length then .error .listFull
  else .ok { s with blocks := listKey r.key r.expiry s.blocks }

/-- A REMOVE of a rider key that is not 0 (R38). -/
def State.removeKey (s : State) (r : BatchRecord) : Except StopReason State :=
  .ok { s with blocks := s.blocks.filter fun e => e.key != r.key }

/-! ## The application of the next record (R162, R163) -/

/-- The four kinds of record (10.7). -/
inductive RecordKind
  | put | drop | add | remove
  deriving DecidableEq, Repr

/-- The kind of a record's kind code; none outside 1 to 4 (10.7). -/
def recordKindOf (code : Byte) : Option RecordKind :=
  match code.toNat with
  | 1 => some .put | 2 => some .drop | 3 => some .add | 4 => some .remove
  | _ => none

/-- The batch kind to which a record kind belongs (9.5). -/
def RecordKind.batch : RecordKind → BatchKind
  | .put => .rider
  | .drop => .rider
  | .add => .block
  | .remove => .block

/-- What a record does to its structure, or why its batch stops (R21, R22, R37, R38, R163): key 0 first, then a kind that does
not belong to the batch (log entry 19). -/
def State.applyRecord (s : State) (kind : BatchKind) (r : BatchRecord) : Except StopReason State :=
  if r.key = 0 then .error .badKey
  else
    match kind, recordKindOf r.kind with
    | .rider, some .put => s.putRider r
    | .rider, some .drop => s.dropRecord r
    | .block, some .add => s.addRecordKey r
    | .block, some .remove => s.removeKey r
    | _, _ => .error .badRecord

/-- The slot after a record was applied: the next record, or the end of the batch after its last (R162, R163). -/
def State.advanceBatch (s : State) (b : Batch) : State :=
  if b.next + 1 < b.records.length then { s with batch := some { b with next := b.next + 1, applied := b.applied + 1 } }
  else s.endBatch b (b.applied + 1) .none 0

/-- The application of one record of the batch in the slot (R162, R163). -/
def State.applyNext (s : State) (b : Batch) (r : BatchRecord) : State :=
  match s.applyRecord b.kind r with
  | .ok s => s.advanceBatch b
  | .error stop => s.endBatch b b.applied stop r.key

/-- The command of a record kind takes the next record when the record is of that kind, or of a kind code that no record has
(log entry 26); otherwise the command's event is not there to take (log entry 4). -/
def takesRecord (k : RecordKind) (r : BatchRecord) : Bool :=
  match recordKindOf r.kind with
  | some k' => k' == k
  | none => true

/-- The application of the next record, if it is of the command's kind. -/
def takeRecord (k : RecordKind) (s : State) : State :=
  match s.batch with
  | none => s
  | some b =>
    match b.records[b.next]? with
    | none => s
    | some r => if takesRecord k r then s.applyNext b r else s

/-! ## The commands -/

/-- PUT (R21). -/
def execPut (s : State) : Host.Outcome State Fault Refusal := whenRunning s (takeRecord .put)

/-- DROP (R22). -/
def execDrop (s : State) : Host.Outcome State Fault Refusal := whenRunning s (takeRecord .drop)

/-- ADD (R37). -/
def execAdd (s : State) : Host.Outcome State Fault Refusal := whenRunning s (takeRecord .add)

/-- REMOVE (R38). -/
def execRemove (s : State) : Host.Outcome State Fault Refusal := whenRunning s (takeRecord .remove)

end Sys2Proof.Machine
end

