-- ==== Sys2Proof/Machine/Releases.lean ====
section
/-! DEFINITION. The Release List: reports, the removal of records, grants of referred records, settlement, verdicts, the two
record timers (chapter 5). -/

namespace Sys2Proof.Machine

/-! ## Reports and removals (R83, R84, R102) -/

/-- The RELEASE_REPORT of a record at its removal (R102): the bike id goes with LIFTED alone. -/
def reportOf (r : Record) (outcome : RelOutcome) (detail : ReportDetail) : ReleaseReport :=
  { number := r.number, dock := r.dock, outcome := outcome, rider := r.rider, source := r.source, cond := r.cond,
    cls := r.cls, seq := r.seq, charged := r.charged, counted := r.counted,
    bikeId := if outcome = .lifted then r.bikeId else none, detail := detail }

/-- The entry changes of a removal before the lift, or a lift timeout (R84). -/
def RiderEntry.refund (e : RiderEntry) (counted charged : Bool) : RiderEntry :=
  let e := if counted then e.bikeIn else e
  if charged then e.addAllowance 1 else e

/-- The rider entry of a record takes the changes of R84. -/
def State.refundFor (s : State) (r : Record) : State :=
  match r.rider with
  | none => s
  | some k => s.modRider k fun e => e.refund r.counted r.charged

/-- The removal of a record in the order of R83: entry changes, report, the record, the dock (`move`), the drop-pending
test. -/
def State.removeRecord (s : State) (r : Record) (refund : Bool) (report : Option (RelOutcome × ReportDetail))
    (move : State → State) : State :=
  let s := if refund then s.refundFor r else s
  let s := match report with
    | some (outcome, detail) => s.offer (.releaseReport (reportOf r outcome detail))
    | none => s
  (move (s.eraseRecord r.number)).dropTest r.rider

/-- The removal of the record that names a dock; with none, the dock's move alone. -/
def State.removeAt (s : State) (d : DockNo) (refund : Bool) (report : Option (RelOutcome × ReportDetail))
    (move : State → State) : State :=
  match s.recordAt d with
  | some r => s.removeRecord r refund report move
  | none => move s

/-! ## Grants of a referred record (R87, R90) -/

/-- A REFERRED record becomes a grant: OPENING, its timer stopped, charged clear (R87, R90). -/
def Record.granted (r : Record) (src : Source) (counted : Bool) : Record :=
  { r with state := .opening, source := some src, charged := false, counted := counted, timer := .none }

/-- The dock of a granted record: OPENING, UNLATCH set, GREEN (R77, R87, R90). -/
def DockContext.grantTo (c : DockContext) (n : Half) : DockContext :=
  ((c.nameBy .opening n).setOrder .unlatch).setLight .green

/-- A referred record is granted with its rider's entry as it stands: counted when there is one (R81, R87, R90). -/
def State.grantReferred (s : State) (r : Record) (src : Source) : State :=
  let k := r.rider.getD 0
  ((s.modRecord r.number fun r => r.granted src (s.lookup k).isSome).modRider k fun e => e.granted s.curEpoch).modCtx
    r.dock fun c => c.grantTo r.number

/-- A settlement that refuses (R90). -/
def State.settleRefused (s : State) (r : Record) (reason : Reason) : State :=
  s.removeRecord r false (some (.settledRefused, .refusedWith reason)) fun s =>
    s.modCtx r.dock fun c => (c.moveTo .holding).setLight (.red reason 0)

/-- The settlement of a REFERRED record that the mask permits (R90): a provisional creation first when the rider has no
entry and the condition is 2. -/
def State.settleGranted (s : State) (r : Record) (k : Key) (c : Fin 4) : State :=
  if (s.lookup k).isNone ∧ c = 2 then
    match s.createProvisional k (r.cls.getD 0) (r.seq.getD 0) with
    | some s => s.grantReferred r .fallback
    | none => s.settleRefused r .tableFull
  else s.grantReferred r .fallback

/-- A REFERRED record settled by the islanded mask of its dock, read live, with its stored condition (R90). Every REFERRED
record holds a rider key and a condition (R81); one that held none would be refused. -/
def State.settle (s : State) (r : Record) : State :=
  match r.rider, r.cond with
  | some k, some c =>
    if maskAllows (s.desc r.dock).islandedMask c then s.settleGranted r k c else s.settleRefused r .noAnswer
  | _, _ => s.settleRefused r .noAnswer

/-- Every REFERRED record settled, oldest first (R109). -/
def State.settleAll (s : State) : State :=
  (s.records.filter fun r => r.state == .referred).foldl (fun s r => s.settle r) s

/-! ## Verdicts (R86 to R89) -/

/-- A verdict's fields (R86, 10.7). -/
structure Verdict where
  number : Half
  dock : Byte
  rider : Key
  grant : Bool
  reason : Byte
  allowance : Option Byte
  deriving DecidableEq, Repr

/-- The fields of a fitting VERDICT body (10.7). -/
def verdictOf (body : List Byte) : Verdict :=
  { number := halfAt body 0, dock := byteAt body 2, rider := wordAt body 3, grant := byteAt body 7 == 1,
    reason := byteAt body 8, allowance := if (byteAt body 9).getLsbD 0 then some (byteAt body 10) else none }

/-- A record that a verdict matches (R86). -/
def Verdict.hits (v : Verdict) (r : Record) : Bool :=
  r.number == v.number && decide (r.dock.val = v.dock.toNat) && r.rider == some v.rider && r.state == .referred

/-- The verdict's allowance value is applied to the rider's entry (R32). -/
def Verdict.applyAllowance (v : Verdict) (s : State) : State :=
  match v.allowance with
  | some a => s.modRider v.rider fun e => e.setAllowance a.toNat
  | none => s

/-- The LATE_NOTICE that answers a verdict (R89). -/
def Verdict.lateNotice (v : Verdict) : Uplink :=
  .lateNotice v.number v.dock v.rider v.grant v.reason v.allowance.isSome

/-- An accepted and fitting VERDICT (R86 to R89). -/
def takeVerdict (body : List Byte) (s : State) : State :=
  let v := verdictOf body
  match s.records.find? v.hits with
  | none => s.offer v.lateNotice
  | some r =>
    let s := v.applyAllowance s
    if v.grant then s.grantReferred r .central
    else s.removeRecord r false none fun s =>
      s.modCtx r.dock fun c => (c.moveTo .holding).setLight (.red .backendDeny v.reason)

/-! ## The record timers (R85, R91, R96) -/

/-- A record's timer falls by 1 at a tick (R85). -/
def RecTimer.tick : RecTimer → RecTimer
  | .none => .none
  | .referral n => .referral (n - 1)
  | .lift n => .lift (n - 1)

/-- The record of a release number whose timer stands at the value given. -/
def State.expired (s : State) (n : Half) (t : RecTimer) : Option Record :=
  s.records.find? fun r => r.number == n && r.timer == t

/-- The expiry of a referral timer (R91). -/
def takeReferralExpiry (n : Half) (s : State) : State :=
  match s.expired n (.referral 0) with
  | some r => if r.state = .referred then s.settle r else s
  | none => s

/-- The relatch owed mark that a lift timeout leaves (R53, R96). -/
def owedOf (r : Record) : Owed :=
  { release := r.number, rider := if r.counted then r.rider else none, charged := r.charged }

/-- The dock of a lift timeout: HOLDING, DARK, RELATCH set, relatch owed (R96). -/
def DockContext.timeOut (c : DockContext) (r : Record) : DockContext :=
  { (((c.moveTo .holding).setLight .dark).setOrder .relatch) with owed := some (owedOf r) }

/-- The expiry of a lift timer (R96). -/
def takeLiftExpiry (n : Half) (s : State) : State :=
  match s.expired n (.lift 0) with
  | some r =>
    if r.state = .opened then
      s.removeRecord r true (some (.timedOut, .nothing)) fun s => s.modCtx r.dock fun c => c.timeOut r
    else s
  | none => s

/-! ## Late lift (R97) -/

/-- The entry changes of a late lift (R97). -/
def RiderEntry.lateLift (e : RiderEntry) (charged : Bool) : RiderEntry :=
  let e := e.bikeOut
  if charged then e.takeCharge else e

/-- The report of a late lift, from the mark (R97, R102). -/
def lateLiftReport (o : Owed) (d : DockNo) (bikeId : Option Word) : ReleaseReport :=
  { number := o.release, dock := d, outcome := .lateLift, rider := o.rider, source := none, cond := none, cls := none,
    seq := none, charged := o.charged, counted := o.rider.isSome, bikeId := bikeId, detail := .nothing }

/-- The Release List's side of a late lift (R97). -/
def State.lateLift (s : State) (d : DockNo) (o : Owed) : State :=
  let s := match o.rider with
    | some k => s.modRider k fun e => e.lateLift o.charged
    | none => s
  s.offer (.releaseReport (lateLiftReport o d (s.ctx d).bikeId))

/-! ## Unlatch acknowledgement (R93) -/

/-- An OPENING record becomes OPEN and its lift timer starts (R85, R93). -/
def Record.openUp (r : Record) (ticks : Nat) : Record := { r with state := .opened, timer := .lift ticks }

/-- The OPENING record that names a dock becomes OPEN (R93). -/
def State.openRecordAt (s : State) (d : DockNo) : State :=
  match s.recordAt d with
  | some r => s.modRecord r.number fun r => r.openUp (s.params.liftTimeout * 10)
  | none => s

end Sys2Proof.Machine
end

