-- ==== Sys2Proof/Machine/Token.lean ====
section
/-! DEFINITION. The Token Check Unit: form, key slot, tag, scope, age (chapter 1). -/

namespace Sys2Proof.Machine

/-- The form check (R2). -/
def Token.malformed (t : Token) : Bool :=
  t.rider == 0 || decide (3 < t.slot.toNat) || decide (3 < t.claimed.toNat) || t.span == 0 ||
    decide (15 < t.span.toNat) || t.spare != 0

/-- The fold of a token over a key row (R7). -/
def foldTag (t : Token) (k : KeyRow) : Word :=
  addEndAround (addEndAround (addEndAround (addEndAround k.k4
    (rotateBytes (t.w0 ^^^ k.k0) 0)) (rotateBytes (t.w1 ^^^ k.k1) 1)) (rotateBytes (t.w2 ^^^ k.k2) 2))
    (rotateBytes (t.w3 ^^^ k.k3) 3)

/-- The scope check: the refusal it ends with, if any (R9, R10). -/
def State.scopeRefusal (s : State) (d : DockNo) (t : Token) : Option Reason :=
  if ¬(t.stationScope = 0 ∨ t.stationScope.toNat = s.stationCode.toNat) then some .wrongStation
  else if ¬(t.dockScope = 65535 ∨ t.dockScope.toNat = d.val) then some .wrongDock
  else none

/-- The age check on a valid epoch: the refusal it ends with, if any (R11). -/
def ageRefusal (e issue : Half) (span : Byte) : Option Reason :=
  let age := (e - issue).toNat
  if age < span.toNat ∨ age = 65535 then none
  else if age ≤ 32767 then some .expired
  else some .early

/-- Steps 3 to 7: the refusal of the first check that fails, or whether the tap is time unchecked (R2 to R13). -/
def State.tokenCheck (s : State) (d : DockNo) (t : Token) : Except Reason Bool :=
  if t.malformed then .error .malformed
  else if (s.keyRow t.keySlot).valid = false then .error .keyAbsent
  else if foldTag t (s.keyRow t.keySlot) ≠ t.tag then .error .badTag
  else
    match s.scopeRefusal d t with
    | some r => .error r
    | none =>
      if s.epochValid then
        match ageRefusal s.epoch t.issue t.span with
        | some r => .error r
        | none => .ok false
      else .ok true

end Sys2Proof.Machine
end

