-- ==== Sys2Proof/Machine/Admission.lean ====
section
/-! DEFINITION. The Admission Unit: the fifteen ordered checks of one tap and its three outcomes (chapter 4). -/

namespace Sys2Proof.Machine

/-- Step 1: the refusal of the dock gate, if any (R65). -/
def State.gateRefusal (s : State) (d : DockNo) : Option Reason :=
  if s.isIslanded ∧ (s.desc d).mode = .close then some .dockClosed
  else
    match (s.ctx d).state with
    | .holding => if (s.ctx d).owed.isSome then some .dockBusy else none
    | .vacant => some .noBike
    | .checking => some .dockBusy
    | .opening => some .dockBusy
    | .opened => some .dockBusy
    | .closed => some .dockClosed
    | .faulted => some .dockClosed
    | .unpolled => some .noBike
    | .unseen => some .noBike
    | .absent => some .noBike

/-! ## Outcomes (4.4) -/

/-- A refusal at steps 1 to 5: RED, and the unreported-refusal count (R79). -/
def State.refuseQuiet (s : State) (d : DockNo) (r : Reason) : State :=
  s.modCtx d fun c => { c.setLight (.red r 0) with unreported := min 65535 (c.unreported + 1) }

/-- A refusal at steps 6 to 15: RED, and a TAP_REFUSED (R79). -/
def State.refuseReported (s : State) (d : DockNo) (r : Reason) (rider : Key) (seq : Half) (cond : Option (Fin 4)) :
    State :=
  (s.modCtx d fun c => c.setLight (.red r 0)).offer (.tapRefused d r rider seq cond)

/-- Whether a refusal of the token checks is reported: those of steps 3 to 5 are not (R79). -/
def reported : Reason → Bool
  | .malformed => false
  | .keyAbsent => false
  | .badTag => false
  | _ => true

/-- What a tap carries past step 10 (R67 to R70): the dock, the rider, the sequence, the time-unchecked mark, the effective
class and the rider's entry as steps 11 to 15 read it, if the rider is known. -/
structure Tap where
  dock : DockNo
  rider : Key
  seq : Half
  unchecked : Bool
  cls : Fin 4
  known : Option RiderEntry
  deriving DecidableEq, Repr

/-- The record a LOCAL or ISLANDED grant creates (R77). -/
def grantRecord (s : State) (t : Tap) (src : Source) (cond : Fin 4) : Record :=
  { number := s.newNumber, dock := t.dock, rider := some t.rider, state := .opening, source := some src,
    cond := some cond, cls := some t.cls, seq := some t.seq, charged := (s.classRow t.cls).charge, counted := true,
    bikeId := (s.ctx t.dock).bikeId, timer := .none }

/-- The rider entry of a LOCAL or ISLANDED grant (R77). -/
def RiderEntry.grantedTap (e : RiderEntry) (charged : Bool) (now : Half) : RiderEntry :=
  let e := e.granted now
  if charged then e.takeCharge else e

/-- A grant of source LOCAL or ISLANDED: record, rider entry, dock (R77). -/
def State.grantTap (s : State) (t : Tap) (src : Source) (cond : Fin 4) : State :=
  ((s.addRecord (grantRecord s t src cond)).modRider t.rider fun e =>
    e.grantedTap (s.classRow t.cls).charge s.curEpoch).modCtx t.dock fun c => c.grantTo s.newNumber

/-- The islanded-grant count of an ISLANDED grant made while the station is islanded (R113). -/
def State.countGrant (s : State) (src : Source) : State :=
  if s.isIslanded ∧ src = .islanded then { s with islandedGrants := min 65535 (s.islandedGrants + 1) } else s

/-- A grant that steps 15 and R76 have allowed: a provisional entry first for condition 2 (R76, R77, R113). -/
def State.grantOrFull (s : State) (t : Tap) (src : Source) (cond : Fin 4) : State :=
  if cond = 2 then
    match s.createProvisional t.rider t.cls t.seq with
    | some s => (s.grantTap t src cond).countGrant src
    | none => s.refuseReported t.dock .tableFull t.rider t.seq (some cond)
  else (s.grantTap t src cond).countGrant src

/-- The record a referral creates (R78). -/
def referRecord (s : State) (t : Tap) (cond : Fin 4) : Record :=
  { number := s.newNumber, dock := t.dock, rider := some t.rider, state := .referred, source := none, cond := some cond,
    cls := some t.cls, seq := some t.seq, charged := false, counted := false, bikeId := (s.ctx t.dock).bikeId,
    timer := .referral (s.params.referralTimeout * 10) }

/-- A referral: record, REFERRAL, dock (R78). -/
def State.referTap (s : State) (t : Tap) (cond : Fin 4) : State :=
  ((s.addRecord (referRecord s t cond)).offer
    (.referral s.newNumber t.dock t.rider t.cls cond t.seq t.unchecked)).modCtx t.dock fun c =>
      (c.nameBy .checking s.newNumber).setLight .amber

/-! ## Steps 11 to 15 -/

/-- Step 15 by the islanded mask (R75). -/
def State.byIslandedMask (s : State) (t : Tap) (cond : Fin 4) : State :=
  if maskAllows (s.desc t.dock).islandedMask cond then s.grantOrFull t .islanded cond
  else s.refuseReported t.dock .notPermitted t.rider t.seq (some cond)

/-- Steps 14 and 15 (R73 to R75). -/
def State.decideTap (s : State) (t : Tap) (cond : Fin 4) : State :=
  if t.unchecked then
    if !s.isIslanded && s.hasRoom then s.referTap t cond
    else s.refuseReported t.dock .epochUnknown t.rider t.seq (some cond)
  else if s.isIslanded then s.byIslandedMask t cond
  else if maskAllows (s.desc t.dock).localMask cond then s.grantOrFull t .localGrant cond
  else if s.hasRoom then s.referTap t cond
  else s.byIslandedMask t cond

/-- Steps 11 to 15 (R70 to R75). -/
def State.classTap (s : State) (t : Tap) : State :=
  if t.cls < (s.desc t.dock).minLevel then s.refuseReported t.dock .classLow t.rider t.seq none
  else if (s.desc t.dock).kind = .ebike ∧ (s.classRow t.cls).ebike = false then
    s.refuseReported t.dock .ebikeNotAllowed t.rider t.seq none
  else if (s.classRow t.cls).limit ≤ (t.known.map RiderEntry.bikesOut).getD 0 then
    s.refuseReported t.dock .atLimit t.rider t.seq none
  else s.decideTap t (conditionCode t.known (s.classRow t.cls))

/-- Steps 8 to 15 of a token that has passed steps 3 to 7 (R68 to R75). -/
def State.riderTap (s : State) (d : DockNo) (t : Token) (unchecked : Bool) : State :=
  if s.isBlocked t.rider then s.refuseReported d .blocked t.rider t.seq none
  else
    match s.lookup t.rider with
    | none => s.classTap { dock := d, rider := t.rider, seq := t.seq, unchecked := unchecked, cls := t.cls, known := none }
    | some e =>
      if e.dropPending then s.refuseReported d .riderPending t.rider t.seq none
      else
        match judgeSeq e.top e.used t.seq with
        | .replay => s.refuseReported d .replay t.rider t.seq none
        | .stale => s.refuseReported d .stale t.rider t.seq none
        | .accepted top used =>
          (s.modRider t.rider fun e => e.setWindow top used).classTap
            { dock := d, rider := t.rider, seq := t.seq, unchecked := unchecked, cls := e.cls,
              known := some (e.setWindow top used) }

/-- A tap at a dock: the fifteen ordered checks (R64 to R79). -/
def State.admitTap (s : State) (d : DockNo) (t : Token) : State :=
  match s.gateRefusal d with
  | some r => s.refuseQuiet d r
  | none =>
    if s.listFull then s.refuseQuiet d .stationFull
    else
      match s.tokenCheck d t with
      | .error r => if reported r then s.refuseReported d r t.rider t.seq none else s.refuseQuiet d r
      | .ok unchecked => s.riderTap d t unchecked

end Sys2Proof.Machine
end

