-- ==== Sys2Proof/Machine/Docks.lean ====
section
/-! DEFINITION. The Dock Contexts: taking a good reply, misses, order acknowledgement and failure, lifts, arrivals, head faults,
the shown indicator's changes (chapter 3). -/

namespace Sys2Proof.Machine

/-! ## Lift and arrival at the dock (R47, R48) -/

/-- A DOCK_EVENT of a dock is offered. -/
def State.tellDock (s : State) (d : DockNo) (e : DockEvent) : State := s.offer (.dockEvent d e)

/-- The late lift at a dock, but for its state (R47, R97). -/
def State.lateLiftAt (s : State) (d : DockNo) (o : Owed) : State :=
  (s.lateLift d o).modCtx d fun c => { c.withdraw with owed := none }

/-- A lift at the dock (R47); `before` is the bike present field as it stood before this reply. -/
def State.liftAt (s : State) (d : DockNo) (before : Presence) : State :=
  match (s.ctx d).state with
  | .holding =>
    match (s.ctx d).owed with
    | some o => (s.lateLiftAt d o).modCtx d fun c => (c.moveTo .vacant).setLight .dark
    | none => (s.tellDock d (.forcedLift (s.ctx d).bikeId)).modCtx d fun c =>
        (c.withdraw.moveTo .vacant).setLight .dark
  | .checking => s.removeAt d false (some (.abandoned, .nothing)) fun t =>
      (t.tellDock d (.forcedLift (s.ctx d).bikeId)).modCtx d fun c => (c.moveTo .vacant).setLight .dark
  | .opening => s.removeAt d false (some (.lifted, .nothing)) fun t =>
      t.modCtx d fun c => (c.withdraw.moveTo .vacant).setLight .dark
  | .opened => s.removeAt d false (some (.lifted, .nothing)) fun t =>
      t.modCtx d fun c => (c.moveTo .vacant).setLight .dark
  | .closed =>
    match (s.ctx d).owed with
    | some o => s.lateLiftAt d o
    | none => (if before = .present then s.tellDock d (.forcedLift (s.ctx d).bikeId) else s).modCtx d DockContext.withdraw
  | .faulted =>
    (if before = .present then s.tellDock d (.forcedLift (s.ctx d).bikeId) else s).modCtx d DockContext.withdraw
  | .vacant => s
  | .unpolled => s
  | .unseen => s
  | .absent => s

/-- A re-seat in OPEN (R48, R98). -/
def State.reseatAt (s : State) (d : DockNo) : State :=
  s.removeAt d true (some (.returnedUnused, .nothing)) fun t => t.modCtx d fun c => (c.moveTo .holding).setLight .dark

/-- The bike present field shows a bicycle. -/
def DockContext.showBike (c : DockContext) : DockContext := { c with bikePresent := .present }

/-- An arrival at the dock with the reply's bike id (R48); the bike present field shows it (log entry 13). -/
def State.arriveAt (s : State) (d : DockNo) (bikeId : Option Word) : State :=
  match (s.ctx d).state with
  | .vacant => (s.tellDock d (.docked bikeId)).modCtx d fun c => (c.showBike.moveTo .holding).setLight .dark
  | .closed => (s.tellDock d (.docked bikeId)).modCtx d DockContext.showBike
  | .faulted => (s.tellDock d (.docked bikeId)).modCtx d DockContext.showBike
  | .holding => s
  | .checking => s
  | .opening => s
  | .opened => s
  | .unpolled => s
  | .unseen => s
  | .absent => s

/-! ## A good reply (R45, R46, R51, R55, R56) -/

/-- The presence transition (R46). -/
def State.presenceAt (s : State) (d : DockNo) (r : Reply) : State :=
  let c := s.ctx d
  if c.state = .unseen ∨ c.state = .absent then
    (s.tellDock d (.present r.latchClosed r.bike r.bikeId)).modCtx d fun c =>
      (c.moveTo (if r.bike then .holding else .vacant)).setLight .dark
  else if (c.state = .closed ∨ c.state = .faulted) ∧ c.missCount = 8 then
    s.tellDock d (.present r.latchClosed r.bike r.bikeId)
  else s

/-- A lift, a re-seat or an arrival shown by the reply's status (R47, R48). -/
def State.statusAt (s : State) (d : DockNo) (r : Reply) (before : Presence) : State :=
  if r.bike then
    if (s.ctx d).state = .opened then (if r.latchClosed then s.reseatAt d else s)
    else if before = .absent then s.arriveAt d r.bikeId
    else s
  else if before = .present then s.liftAt d before
  else s

/-- The status fields mirror the reply, and the miss count is 0 (R45). -/
def DockContext.mirror (c : DockContext) (r : Reply) : DockContext :=
  { c with bikePresent := if r.bike then .present else .absent, latch := if r.latchClosed then .closed else .opened,
           bikeId := r.bikeId, missCount := 0 }

/-- The latch-open check: a RELATCH is set on a HOLDING or CLOSED dock whose latch stands open with the slot empty and no
relatch owed (R46, R48). -/
def DockContext.closeLatch (c : DockContext) : DockContext :=
  if (c.state = .holding ∨ c.state = .closed) ∧ c.latch = .opened ∧ c.order = none ∧ c.owed = none then
    c.setOrder .relatch
  else c

/-- Part 1 of a good reply: the status (R45). -/
def State.replyStatus (s : State) (d : DockNo) (r : Reply) : State :=
  ((s.presenceAt d r).statusAt d r (s.ctx d).bikePresent).modCtx d fun c => (c.mirror r).closeLatch

/-- Part 2 of a good reply: the acknowledgement (R45, R51, R93). -/
def State.replyAck (s : State) (d : DockNo) (r : Reply) : State :=
  let c := s.ctx d
  if r.serial = c.serial then
    match c.order with
    | none => s
    | some .relatch => s.modCtx d fun c => { c.withdraw with owed := none }
    | some .unlatch =>
      if c.state = .opening then (s.openRecordAt d).modCtx d fun c => { c.withdraw with state := .opened }
      else s.modCtx d DockContext.withdraw
  else s

/-- A LIFT event: a lift at the dock, unless the bicycle is already gone (R47, R55); the bike present field then shows it
absent (log entry 13). -/
def State.liftEvent (s : State) (d : DockNo) (before : Presence) : State :=
  if (s.ctx d).state = .vacant ∨ (s.ctx d).bikePresent = .absent then s
  else (s.liftAt d before).modCtx d fun c => { c with bikePresent := .absent }

/-- A DOCKED event: a re-seat in OPEN, an arrival elsewhere, unless the reply's status already showed the arrival (R48,
R56). -/
def State.dockedEvent (s : State) (d : DockNo) (r : Reply) (before : Presence) : State :=
  if (s.ctx d).state = .opened then s.reseatAt d
  else if r.bike ∧ before = .absent then s
  else s.arriveAt d r.bikeId

/-- A FAULT event of the dock head (R56, R92, R100). -/
def State.faultEvent (s : State) (d : DockNo) (code : Byte) : State :=
  let s := s.tellDock d (.headFault code)
  match (s.ctx d).state with
  | .checking => s.removeAt d false (some (.fault, .headFault code)) fun t => t.modCtx d DockContext.fail
  | .opening => s.removeAt d true (some (.fault, .headFault code)) fun t => t.modCtx d DockContext.fail
  | .opened => s.removeAt d true (some (.fault, .headFault code)) fun t => t.modCtx d DockContext.fail
  | .holding => s.modCtx d DockContext.fail
  | .vacant => s.modCtx d DockContext.fail
  | .closed => s
  | .faulted => s
  | .unpolled => s
  | .unseen => s
  | .absent => s

/-- Part 3 of a good reply: the event (R45, R55, R56); `before` is the bike present field before this reply. -/
def State.replyEvent (s : State) (d : DockNo) (r : Reply) (before : Presence) : State :=
  match r.event with
  | .nothing => s
  | .tap t => s.admitTap d t
  | .lift => s.liftEvent d before
  | .docked => s.dockedEvent d r before
  | .fault code => s.faultEvent d code

/-- A good reply taken at its dock's context: status, acknowledgement, event, in this order (R45). -/
def State.takeReply (s : State) (d : DockNo) (r : Reply) : State :=
  ((s.replyStatus d r).replyAck d r).replyEvent d r (s.ctx d).bikePresent

/-! ## Misses and failed orders (R49, R52) -/

/-- The dock after its eighth miss, but for its state (R49). -/
def DockContext.goSilent (c : DockContext) : DockContext :=
  { ((c.withdraw.setLight .dark)) with owed := none, bikePresent := .unknown, latch := .unknown }

/-- The eighth miss at a dock that is not ABSENT (R49, R92, R100). -/
def State.eighthMiss (s : State) (d : DockNo) : State :=
  match (s.ctx d).state with
  | .checking => (s.removeAt d false (some (.fault, .dockAbsent)) fun t =>
      t.modCtx d fun c => c.goSilent.moveTo .absent).tellDock d .absent
  | .opening => (s.removeAt d true (some (.fault, .dockAbsent)) fun t =>
      t.modCtx d fun c => c.goSilent.moveTo .absent).tellDock d .absent
  | .opened => (s.removeAt d true (some (.fault, .dockAbsent)) fun t =>
      t.modCtx d fun c => c.goSilent.moveTo .absent).tellDock d .absent
  | .unseen => (s.modCtx d fun c => c.goSilent.moveTo .absent).tellDock d .absent
  | .vacant => (s.modCtx d fun c => c.goSilent.moveTo .absent).tellDock d .absent
  | .holding => (s.modCtx d fun c => c.goSilent.moveTo .absent).tellDock d .absent
  | .closed => (s.modCtx d DockContext.goSilent).tellDock d .absent
  | .faulted => (s.modCtx d DockContext.goSilent).tellDock d .absent
  | .absent => s
  | .unpolled => s

/-- A miss: the count rises by 1, up to 8, and the eighth is taken when the count reaches 8 (R49, R138 step 3). -/
def State.takeMiss (s : State) (d : DockNo) : State :=
  if (s.ctx d).missCount = 7 then (s.modCtx d fun c => { c with missCount := 8 }).eighthMiss d
  else s.modCtx d fun c => { c with missCount := min 8 (c.missCount + 1) }

/-- A failed order (R52, R94). -/
def State.orderFailed (s : State) (d : DockNo) : State :=
  match (s.ctx d).order, (s.ctx d).state with
  | some .unlatch, .opening => s.removeAt d true (some (.fault, .unlatchFailed)) fun t => t.modCtx d DockContext.fail
  | some .relatch, .holding => s.modCtx d DockContext.fail
  | some .relatch, .unseen => s.modCtx d DockContext.fail
  | some .relatch, .vacant => s.modCtx d DockContext.fail
  | some .relatch, .closed => s.modCtx d DockContext.fail
  | some .relatch, .checking => s.modCtx d DockContext.withdraw
  | _, _ => s

/-! ## The shown indicator's changes (R54, R108, R114) -/

/-- Every polled dock whose islanded mode is CLOSE is marked unsent (R108 step 3, R114 step 4). -/
def State.markClosed (s : State) : State :=
  s.mapCtxs fun d c => if s.polled d ∧ (s.desc d).mode = .close then { c with unsent := true } else c

end Sys2Proof.Machine
end

