-- ==== Sys2Proof/Machine/Islanding.lean ====
section
/-! DEFINITION. The Islanding Monitor: what an accepted frame does to it, the return to online, islanding; and STATION_STATE
(chapter 6, 10.5). -/

namespace Sys2Proof.Machine

/-! ## STATION_STATE (R179) -/

/-- A STATION_STATE as its fields' owners hold them now (R179); the four last fields are given, being 0 but at the causes
that use them. -/
def State.stationReport (s : State) (cause : StateCause) (aborted discarded seconds grants : Nat) : StationReport :=
  { cause := cause, stationCode := s.stationCode, condition := s.condition, epochValid := s.epochValid,
    epoch := s.curEpoch, behindMarks := s.behindMarks, closeMismatch := s.closeMismatch, badFrames := s.badFrames,
    foreignFrames := s.foreignFrames, drops := s.drops, loadState := s.loader.state, recordCount := s.records.length,
    aborted := aborted, discarded := discarded, islandedSeconds := seconds, islandedGrants := grants }

/-! ## Acceptance of a frame (R106, R107, R114) -/

/-- The presence timer started or restarted (R106). -/
def State.startPresence (s : State) : State := { s with presence := some (s.params.presenceTimeout * 10) }

/-- The islanded duration in whole seconds (R114): an islanded time held at 655,350 gives 65,535. -/
def State.islandedSeconds (s : State) : Nat := s.islandedTime / 10

/-- Steps 1 and 2 of the return to online: ONLINE, the presence timer, the STATION_STATE (R114). -/
def State.goOnline (s : State) : State :=
  let t := { s with condition := .online }.startPresence
  t.offer (.stationState (t.stationReport .online 0 0 s.islandedSeconds s.islandedGrants))

/-- The return to online (R114). -/
def State.returnOnline (s : State) : State :=
  { s.goOnline with islandedTime := 0, islandedGrants := 0 }.markClosed

/-- The Islanding Monitor takes the acceptance of a frame (R106, R107). -/
def State.heard (s : State) : State :=
  match s.condition with
  | .online => s.startPresence
  | .islanded => s.returnOnline

/-! ## Becoming islanded (R108, R109) -/

/-- Step 1 of islanding (R108). -/
def State.goIslanded (s : State) : State := { s with condition := .islanded, islandedTime := 0, presence := none }

/-- The expiry of the presence timer (R108, R109). -/
def takePresenceExpiry (s : State) : State :=
  if s.presence = some 0 ∧ s.condition = .online then s.goIslanded.settleAll.markClosed else s

/-! ## The command -/

/-- PRESENCE_TIMER_EXPIRY (R108). -/
def execPresenceTimerExpiry (s : State) : Host.Outcome State Fault Refusal := whenRunning s takePresenceExpiry

/-- REFERRAL_TIMER_EXPIRY (R91). -/
def execReferralTimerExpiry (release : Half) (s : State) : Host.Outcome State Fault Refusal :=
  whenRunning s (takeReferralExpiry release)

/-- LIFT_TIMER_EXPIRY (R96). -/
def execLiftTimerExpiry (release : Half) (s : State) : Host.Outcome State Fault Refusal :=
  whenRunning s (takeLiftExpiry release)

end Sys2Proof.Machine
end

