-- ==== Sys2Proof/Config.lean ====
section
/-! DEFINITION. What the manual leaves open and the model does not settle: constants with no body, so that no proof can lean
on a value of theirs. -/

namespace Sys2Proof

/-- Whether a skip of count 0, taken while the row assembly buffer holds words, ends the partial row. R153 says both that
"a skip of 0 changes nothing" and that "a skip taken while the row assembly buffer holds words ends that partial row";
no file of spec/ says which sentence gives way (log entry 20). -/
opaque Config.skipZeroEndsPartialRow : Bool

end Sys2Proof
end

