-- ==== Sys2Proof/Machine/Strings.lean ====
section
/-! DEFINITION. The String Masters: the poll cycle, polls, the two kinds of exchange, the line watchdog and recovery, head
passes (chapter 8). -/

namespace Sys2Proof.Machine

/-! ## Codes on the poll (10.7) -/

/-- The reason codes of the reason table (10.7). -/
def reasonCode : Reason → Byte
  | .noBike => 1 | .dockBusy => 2 | .dockClosed => 3 | .stationFull => 4 | .malformed => 5 | .keyAbsent => 6
  | .badTag => 7 | .wrongStation => 8 | .wrongDock => 9 | .expired => 10 | .early => 11 | .blocked => 12
  | .riderPending => 13 | .replay => 14 | .stale => 15 | .classLow => 16 | .ebikeNotAllowed => 17 | .atLimit => 18
  | .epochUnknown => 19 | .notPermitted => 20 | .tableFull => 21 | .noAnswer => 22 | .backendDeny => 23

/-- The order codes of a poll (10.7). -/
def orderCode : Order → Byte
  | .unlatch => 1
  | .relatch => 2

/-- The indicator codes of a poll (10.7). -/
def indicatorCode : Indicator → Byte
  | .dark => 0
  | .green => 1
  | .amber => 2
  | .red _ _ => 3

/-- The reason byte of an indicator: 0 but for RED (10.7). -/
def indicatorReason : Indicator → Byte
  | .red r _ => reasonCode r
  | _ => 0

/-- The detail byte of an indicator: the verdict's reason for BACKEND_DENY, else 0 (10.7). -/
def indicatorDetail : Indicator → Byte
  | .red .backendDeny detail => detail
  | _ => 0

/-- A message of a dock string closed by its CRC (R129). -/
def withCrc (bs : List Byte) : List Byte := bs ++ halfBytes (crc16 bs)

/-- The bytes of an ORDINARY poll (R134, 10.7). -/
def ordinaryPoll (aliasNo : Byte) (order : Option (Order × Byte)) (light : Option Indicator) : List Byte :=
  withCrc ([aliasNo, flagBit order.isSome 1 ||| flagBit light.isSome 0] ++
    (match order with
      | some (o, serial) => [orderCode o, serial]
      | none => []) ++
    (match light with
      | some i => [indicatorCode i, indicatorReason i, indicatorDetail i]
      | none => []))

/-- The bytes of a PASS poll (R144, 10.7). -/
def passPoll (aliasNo : Byte) (payload : List Byte) : List Byte :=
  withCrc ([aliasNo, 0x80, natByte payload.length] ++ payload)

/-! ## Choosing an exchange (R132, R133) -/

/-- A dock lies above the position; every dock does while it is absent (R133). -/
def abovePosition (position : Option DockNo) (d : DockNo) : Bool :=
  match position with
  | some p => decide (p < d)
  | none => true

/-- The lowest member above a position that is due in a cycle (R133). -/
def State.nextDue (s : State) (m : StringId) (cycle : Fin 8) (position : Option DockNo) : Option DockNo :=
  (s.members m).find? fun d => abovePosition position d && s.due d cycle

/-- The new cycles that follow one another until a member is due; `fuel` bounds them: in the cycle with count 0 every member
is due (R132). -/
def State.newCycles (s : State) (m : StringId) : Nat → Fin 8 → Option (Fin 8 × DockNo)
  | 0, _ => none
  | fuel + 1, cycle =>
    match s.nextDue m (cycle + 1) none with
    | some d => some (cycle + 1, d)
    | none => s.newCycles m fuel (cycle + 1)

/-- The cycle and the dock of the next exchange (R133). With the position absent the current cycle has had no exchange and is the
one chosen in, after a runtime reset too (DESIGN CHOICE: log entry 41). -/
def State.chooseNext (s : State) (m : StringId) : Option (Fin 8 × DockNo) :=
  match s.nextDue m (s.str m).cycle (s.str m).position with
  | some d => some ((s.str m).cycle, d)
  | none => s.newCycles m 8 (s.str m).cycle

/-! ## Sending a poll (R133, R134, R144) -/

/-- The head-pass slot names the dock (R133). -/
def StringMaster.passFor (x : StringMaster) (d : DockNo) : Option (List Byte) :=
  match x.headPass with
  | some p => if p.dock = d then some p.payload else none
  | none => none

/-- The order an ORDINARY poll of a dock carries, with its serial (R134). -/
def DockContext.carried (c : DockContext) : Option (Order × Byte) := c.order.map fun o => (o, c.serial)

/-- What sending an ORDINARY poll does at the dock's context (R134). -/
def DockContext.polledOnce (c : DockContext) : DockContext :=
  { c with tries := if c.order.isSome then min 3 (c.tries + 1) else c.tries, unsent := false }

/-- The String Master once a poll has begun: POLLING, the position at the dock, the driver enabled (R130, R134). -/
def StringMaster.begin (x : StringMaster) (cycle : Fin 8) (e : Exchange) (line : List Byte) : StringMaster :=
  { x with line := .polling, cycle := cycle, position := some e.dock, exchange := some e, driverEnable := true,
           pollLine := line }

/-- The exchange with a chosen dock begins (R133, R134, R144). -/
def State.sendPoll (s : State) (m : StringId) (cycle : Fin 8) (d : DockNo) : State :=
  let x := s.str m
  let c := s.ctx d
  let a := (s.desc d).aliasNo
  match x.passFor d with
  | some payload =>
    s.setStr m (x.begin cycle { dock := d, aliasSent := a, kind := .pass, serial := none, discarded := false }
      (passPoll a payload))
  | none =>
    (s.setStr m (x.begin cycle
      { dock := d, aliasSent := a, kind := .ordinary, serial := c.carried.map Prod.snd, discarded := false }
      (ordinaryPoll a c.carried (if c.unsent then some (s.shown d) else none)))).modCtx d DockContext.polledOnce

/-- IDLE: position and cycle count cleared, driver enable low (R130, R147 step 5). -/
def StringMaster.goIdle (x : StringMaster) : StringMaster :=
  { x with line := .idle, cycle := 0, position := none, driverEnable := false }

/-- The line is idle in CLEARING: the next exchange is sent, or with no member the String Master goes to IDLE (R140). -/
def takePollSend (m : StringId) (s : State) : State :=
  if (s.str m).line = .clearing then
    match s.chooseNext m with
    | some (cycle, d) => s.sendPoll m cycle d
    | none => s.setStr m (s.str m).goIdle
  else s

/-- The end of a poll's last character: the driver enable falls and the reply window opens (R134, R135). -/
def takePollLastCharacterEnd (m : StringId) (s : State) : State :=
  if (s.str m).line = .polling then s.setStr m { s.str m with driverEnable := false } else s

/-! ## The end of an exchange (R138, R139, R145) -/

/-- The exchange whose reply window is open (R135). -/
def StringMaster.windowOpen (x : StringMaster) (kind : PollKind) : Option Exchange :=
  match x.exchange with
  | some e => if x.line = .polling ∧ x.driverEnable = false ∧ e.kind = kind then some e else none
  | none => none

/-- The line after an exchange, a recovery: CLEARING, or IDLE for a String Master that keeps no member (R138, R141, R147
step 5). -/
def State.clearLine (s : State) (m : StringId) (x : StringMaster) : State :=
  s.setStr m (if (s.members m).isEmpty then x.goIdle else { x with line := .clearing })

/-- The exchange record cleared and the line in CLEARING (R138 step 1, R145, R147 step 5). -/
def State.closeExchange (s : State) (m : StringId) : State := s.clearLine m { s.str m with exchange := none }

/-- A reply that was received but not good is counted at the polled dock (R137, R145). -/
def State.countCrc (s : State) (d : DockNo) : State :=
  s.modCtx d fun c => { c with crcErrors := min 255 (c.crcErrors + 1) }

/-- The try test (R139). -/
def State.tryTest (s : State) (d : DockNo) (carried : Option Byte) : State :=
  if (s.ctx d).order.isSome ∧ carried = some (s.ctx d).serial ∧ (s.ctx d).tries = 3 then s.orderFailed d else s

/-- What an ORDINARY window that is not discarded brings to its dock: a good reply, or a miss (R137, R138 steps 2, 3). -/
def State.takeWindow (s : State) (e : Exchange) (rx : List Byte) : State :=
  match goodReply e.aliasSent rx with
  | some r => s.takeReply e.dock r
  | none => (if rx.isEmpty then s else s.countCrc e.dock).takeMiss e.dock

/-- The end of an ORDINARY exchange (R138, R147 step 2). -/
def takeOrdinaryEnd (m : StringId) (rx : List Byte) (s : State) : State :=
  match (s.str m).windowOpen .ordinary with
  | none => s
  | some e =>
    if e.discarded then s.closeExchange m
    else ((s.closeExchange m).takeWindow e rx).tryTest e.dock e.serial

/-- A HEAD_REPLY about a dock (R143 to R146). -/
def headReplyOf (d : DockNo) (outcome : HeadOutcome) (payload : List Byte) : Uplink :=
  .headReply (natByte d.val) outcome payload

/-- The head-pass slot emptied. -/
def State.emptySlot (s : State) (m : StringId) : State := s.setStr m { s.str m with headPass := none }

/-- The end of a PASS exchange (R145, R147 step 2). -/
def takePassEnd (m : StringId) (rx : List Byte) (s : State) : State :=
  match (s.str m).windowOpen .pass with
  | none => s
  | some e =>
    let s := (s.closeExchange m).emptySlot m
    if e.discarded then s.offer (headReplyOf e.dock .noReply [])
    else
      match goodPassReply e.aliasSent rx with
      | some payload => s.offer (headReplyOf e.dock .done payload)
      | none => (if rx.isEmpty then s else s.countCrc e.dock).offer (headReplyOf e.dock .noReply [])

/-! ## The line watchdog (R140, R141) -/

/-- The line is stuck: recovery begins with 16 break pulses (R141 steps 1 to 3). -/
def takeLineStuck (m : StringId) (s : State) : State :=
  let x := s.str m
  if x.line = .clearing then
    s.setStr m { x with line := .recovering, stuck := min 255 (x.stuck + 1), pulses := 16, recoveryTimer := none,
                        driverEnable := true }
  else s

/-- The sixteenth pulse ends: the recovery timer starts at 20 ms (R141 step 4). -/
def takePulsesDone (m : StringId) (s : State) : State :=
  let x := s.str m
  if x.line = .recovering ∧ 0 < x.pulses then
    s.setStr m { x with pulses := 0, recoveryTimer := some 20, driverEnable := false }
  else s

/-- The recovery timer runs out: CLEARING for a fresh check (R141 step 5), or IDLE with no member (R147 step 5). -/
def takeRecoveryExpiry (m : StringId) (s : State) : State :=
  let x := s.str m
  if x.line = .recovering ∧ x.recoveryTimer.isSome then s.clearLine m { x with recoveryTimer := none } else s

/-! ## HEAD_PASS (R143, R173) -/

/-- A HEAD_PASS at its String Master: the last three lines of R143. -/
def State.passAt (s : State) (m : StringId) (d : DockNo) (payload : List Byte) : State :=
  if s.reduced d then s.offer (headReplyOf d .noDock [])
  else if (s.str m).headPass.isSome then s.offer (headReplyOf d .busy [])
  else s.setStr m { s.str m with headPass := some { dock := d, payload := payload } }

/-- An accepted and fitting HEAD_PASS, judged in the order of R143. -/
def takeHeadPass (body : List Byte) (s : State) : State :=
  match dockOfByte (byteAt body 0) with
  | none => s.offer (.headReply (byteAt body 0) .noDock [])
  | some d =>
    if 64 < (body.drop 1).length then s.offer (headReplyOf d .badLength [])
    else if s.polled d then
      match stringOf s.params d with
      | some m => s.passAt m d (body.drop 1)
      | none => s.offer (headReplyOf d .noDock [])
    else s.offer (headReplyOf d .noDock [])

/-! ## The commands -/

/-- POLL_SEND (R133). -/
def execPollSend (m : StringId) (s : State) : Host.Outcome State Fault Refusal := whenRunning s (takePollSend m)

/-- POLL_LAST_CHARACTER_END (R135). -/
def execPollLastCharacterEnd (m : StringId) (s : State) : Host.Outcome State Fault Refusal :=
  whenRunning s (takePollLastCharacterEnd m)

/-- ORDINARY_EXCHANGE_END (R138). -/
def execOrdinaryExchangeEnd (m : StringId) (rx : List Byte) (s : State) : Host.Outcome State Fault Refusal :=
  whenRunning s (takeOrdinaryEnd m rx)

/-- PASS_EXCHANGE_END (R145). -/
def execPassExchangeEnd (m : StringId) (rx : List Byte) (s : State) : Host.Outcome State Fault Refusal :=
  whenRunning s (takePassEnd m rx)

/-- LINE_STUCK (R140, R141). -/
def execLineStuck (m : StringId) (s : State) : Host.Outcome State Fault Refusal := whenRunning s (takeLineStuck m)

/-- BREAK_PULSES_DONE (R141). -/
def execBreakPulsesDone (m : StringId) (s : State) : Host.Outcome State Fault Refusal := whenRunning s (takePulsesDone m)

/-- RECOVERY_TIMER_EXPIRY (R141). -/
def execRecoveryTimerExpiry (m : StringId) (s : State) : Host.Outcome State Fault Refusal :=
  whenRunning s (takeRecoveryExpiry m)

end Sys2Proof.Machine
end

