-- ==== Sys2Proof/Machine/Tables.lean ====
section
/-! DEFINITION. The Table Loader's window loads: opening, rows, seal, commit checks, commit with its effects on docks and String
Masters, release at a change of epoch (chapter 9). -/

namespace Sys2Proof.Machine

/-! ## Replies and the loader's states (R149, R160) -/

/-- The table and window as the loader holds them (R160). -/
def Loader.held (l : Loader) : Option (TableId × Nat × Nat) :=
  match l.table, l.window with
  | some t, some (f, n) => some (t, f, n)
  | _, _ => none

/-- The loader in IDLE: no table, no window, buffer and staging empty (R149). -/
def Loader.goIdle (l : Loader) : Loader :=
  { l with state := .idle, table := none, window := none, buffer := [], staging := [] }

/-- A LOAD_REPLY with the loader's table and window as it holds them (R160). The replies made by it follow no seal; that NOT_OPEN
and LOADER_BUSY about a sealed load that waits carry completed count 0 is a DESIGN CHOICE (log entry 42). -/
def State.loadReply (s : State) (outcome : LoadOutcome) (completed : Nat) : State :=
  s.offer (.loadReply s.loader.held outcome completed)

/-- The end of a load that follows a seal: the loader goes to IDLE and the reply carries its table, window and completed
count as it held them (R154, R160). -/
def State.endLoad (s : State) (held : Loader) (outcome : LoadOutcome) : State :=
  { s with loader := held.goIdle }.offer (.loadReply held.held outcome held.completed)

/-! ## LOAD_OPEN (R151) -/

/-- The loader with a window opened (R151 step 3). -/
def Loader.openWindow (l : Loader) (t : TableId) (first last : Nat) (defer : Bool) : Loader :=
  { l with state := .opened, table := some t, window := some (first, last), defer := defer, rowCounter := first,
           buffer := [], sealSum := 0, completed := 0, short := false, staging := [] }

/-- The table of a LOAD_OPEN whose window is good (R151 step 2). -/
def goodWindow (body : List Byte) : Option TableId :=
  match tableOf (byteAt body 0) with
  | none => none
  | some t =>
    if (byteAt body 1).toNat ≤ (byteAt body 2).toNat ∧ (byteAt body 2).toNat < tableRows t then some t else none

/-- An accepted and fitting LOAD_OPEN (R151). -/
def takeLoadOpen (body : List Byte) (s : State) : State :=
  if s.loader.state ≠ .idle then s.loadReply .loaderBusy 0
  else
    match goodWindow body with
    | none => s.loadReply .badWindow 0
    | some t =>
      let l := s.loader.openWindow t (byteAt body 1).toNat (byteAt body 2).toNat ((byteAt body 3).getLsbD 0)
      { s with loader := l }.loadReply .opened 0

/-! ## LOAD_ROWS (R152, R153) -/

/-- A row staged, replacing any staged copy of it. -/
def stageRow (row : Nat) (ws : List Word) : List (Nat × List Word) → List (Nat × List Word)
  | [] => [(row, ws)]
  | (r, x) :: rest =>
    if row < r then (row, ws) :: (r, x) :: rest
    else if row = r then (row, ws) :: rest
    else (r, x) :: stageRow row ws rest

/-- The row counter advanced by `n` rows within the window (R152, R153). -/
def Loader.advance (l : Loader) (n : Nat) : Nat :=
  match l.window with
  | some (first, last) => first + (l.rowCounter - first + n) % (last - first + 1)
  | none => l.rowCounter

/-- One word of a word run (R152). -/
def Loader.takeWord (l : Loader) (w : Word) : Loader :=
  let buffer := l.buffer ++ [w]
  let l := { l with sealSum := addEndAround l.sealSum w, buffer := buffer }
  if (l.table.map wordsPerRow).getD 0 ≤ buffer.length then
    { l with buffer := [], staging := stageRow l.rowCounter buffer l.staging,
             completed := min 65535 (l.completed + 1), rowCounter := l.advance 1 }
  else l

/-- A skip (R153). With words in the buffer it ends the partial row; a skip of 0 then does so only if
`Config.skipZeroEndsPartialRow` (log entry 20). -/
def Loader.takeSkip (l : Loader) (n : Nat) : Loader :=
  if l.buffer.isEmpty = false ∧ (n ≠ 0 ∨ Config.skipZeroEndsPartialRow = true) then
    { l with buffer := [], short := true, rowCounter := l.advance n }
  else { l with rowCounter := l.advance n }

/-- One item of a LOAD_ROWS (R152, R153). -/
def Loader.takeItem (l : Loader) : RowItem → Loader
  | .run ws => ws.foldl Loader.takeWord l
  | .skip n => l.takeSkip n

/-- An accepted LOAD_ROWS (R152). -/
def takeLoadRows (body : List Byte) (s : State) : State :=
  if s.loader.state = .opened then
    match rowItems body.length body with
    | none => s.loadReply .badRows 0
    | some items => { s with loader := items.foldl Loader.takeItem s.loader }
  else s.loadReply .notOpen 0

/-! ## The tables as they would stand after a commit (R157, R158) -/

/-- The staged row of a row number. -/
def stagedRow (staging : List (Nat × List Word)) (row : Nat) : Option (List Word) :=
  (staging.find? fun p => p.1 == row).map Prod.snd

/-- The DOCK table with the staged rows laid over it. -/
def State.overlayDescs (s : State) (staging : List (Nat × List Word)) : Vector DockDesc 48 :=
  tabulate fun d => ((stagedRow staging d.val).map readDockRow).getD (s.desc d)

/-- The CLASS table with the staged rows laid over it. -/
def State.overlayClasses (s : State) (staging : List (Nat × List Word)) : Vector ClassRow 4 :=
  tabulate fun c => ((stagedRow staging c.val).map readClassRow).getD (s.classRow c)

/-- The KEY table with the staged rows laid over it. -/
def State.overlayKeys (s : State) (staging : List (Nat × List Word)) : Vector KeyRow 4 :=
  tabulate fun k => ((stagedRow staging k.val).map readKeyRow).getD (s.keyRow k)

/-- The PARAM table with the staged rows laid over it. -/
def overlayParams (p : Params) (staging : List (Nat × List Word)) : Params :=
  staging.foldl (fun p r => overlayParam p r.1 r.2) p

/-- The DOCK rows as they would stand after the commit of a load. -/
def State.newDescs (s : State) (l : Loader) : Vector DockDesc 48 :=
  if l.table = some .dock then s.overlayDescs l.staging else s.descs

/-- The PARAM rows as they would stand after the commit of a load. -/
def State.newParams (s : State) (l : Loader) : Params :=
  if l.table = some .param then overlayParams s.params l.staging else s.params

/-! ## Commit checks (R158) -/

/-- A string range in use is in order and within the 48 docks. -/
def StringRange.wellPlaced (r : StringRange) : Bool :=
  r.first == 255 || (decide (r.first.toNat ≤ r.last.toNat) && decide (r.last.toNat ≤ 47))

/-- RANGE (R158 check 1). -/
def rangesGood (p : Params) : Bool :=
  p.rangeA.wellPlaced && p.rangeB.wellPlaced &&
    (p.rangeA.first == 255 || p.rangeB.first == 255 || decide (p.rangeA.last.toNat < p.rangeB.first.toNat))

/-- The string and alias of every dock that would be polled, in dock order. -/
def addresses (descs : Vector DockDesc 48) (p : Params) : List (Option StringId × Byte) :=
  (allDocks.filter fun d => polledOn (descs.get d) p d).map fun d => (stringOf p d, (descs.get d).aliasNo)

/-- ALIAS_CLASH passes: no two polled docks of one string share an alias (R158 check 2). -/
def aliasesDistinct (descs : Vector DockDesc 48) (p : Params) : Bool := decide (addresses descs p).Nodup

/-- What a commit must leave of a dock named by a record: kind, alias, string (R158 check 3). -/
def anchor (descs : Vector DockDesc 48) (p : Params) (d : DockNo) : DockKind × Byte × Option StringId :=
  ((descs.get d).kind, (descs.get d).aliasNo, stringOf p d)

/-- DOCK_IN_USE passes (R158 check 3). -/
def State.namedKept (s : State) (descs : Vector DockDesc 48) (p : Params) : Bool :=
  s.records.all fun r => anchor descs p r.dock == anchor s.descs s.params r.dock

/-- The commit checks of a load: the first that fails (R158). -/
def State.checkLoad (s : State) (l : Loader) : Option LoadOutcome :=
  match l.table with
  | some .dock =>
    if !aliasesDistinct (s.newDescs l) s.params then some .aliasClash
    else if !s.namedKept (s.newDescs l) s.params then some .dockInUse
    else none
  | some .param =>
    if !rangesGood (s.newParams l) then some .range
    else if !aliasesDistinct s.descs (s.newParams l) then some .aliasClash
    else if !s.namedKept s.descs (s.newParams l) then some .dockInUse
    else none
  | _ => none

/-! ## Commit (R62, R147, R159) -/

/-- A context that a commit sends to UNPOLLED or UNSEEN (R62). -/
def DockContext.moveOut (c : DockContext) (st : DockState) : DockContext :=
  { (((c.moveTo st).withdraw.setLight .dark).forgetStatus) with owed := none, missCount := 0 }

/-- What a String Master reads of a dock: polled or not, at which alias, on which string (R62, R147). -/
def address (descs : Vector DockDesc 48) (p : Params) (d : DockNo) : Bool × Byte × Option StringId :=
  (polledOn (descs.get d) p d, (descs.get d).aliasNo, stringOf p d)

/-- The move of a dock context at a DOCK or PARAM commit (R62); a polled dock whose islanded mode changes while the station
is islanded is marked unsent (R54, R110). -/
def State.commitCtx (s : State) (descs : Vector DockDesc 48) (p : Params) (d : DockNo) (c : DockContext) : DockContext :=
  let now := polledOn (descs.get d) p d
  if s.polled d ∧ now = false then c.moveOut .unpolled
  else if s.polled d = false ∧ now then c.moveOut .unseen
  else if s.polled d ∧ now ∧ address s.descs s.params d ≠ address descs p d then c.moveOut .unseen
  else if now ∧ s.isIslanded ∧ (s.desc d).mode ≠ (descs.get d).mode then { c with unsent := true }
  else c

/-- The live DOCK and PARAM rows replaced, the Dock Contexts moved (R62, R159). -/
def State.commitDocks (s : State) (descs : Vector DockDesc 48) (p : Params) : State :=
  { s.mapCtxs (s.commitCtx descs p) with descs := descs, params := p }

/-- The exchange in flight after a commit: its reply is discarded when the commit changes its dock's polled condition, alias
or string (R147 step 2). -/
def Exchange.afterCommit (e : Exchange) (old : State) (new : State) : Exchange :=
  if address old.descs old.params e.dock = address new.descs new.params e.dock then e else { e with discarded := true }

/-- The slot's pass is in flight (R146, R147). -/
def StringMaster.passInFlight (x : StringMaster) : Bool :=
  match x.exchange with
  | some e => e.kind == .pass
  | none => false

/-- A String Master after a commit: exchange in flight, leaving IDLE (R147). -/
def StringMaster.afterCommit (x : StringMaster) (m : StringId) (old new : State) : StringMaster :=
  let x := { x with exchange := x.exchange.map fun e => e.afterCommit old new }
  if x.line = .idle ∧ (new.members m).isEmpty = false then { x with line := .clearing, cycle := 0, position := none }
  else x

/-- A head pass that waits for a dock that is no longer a member of its string is answered NO_DOCK (R146). -/
def State.passAfterCommit (s : State) (m : StringId) : State :=
  match (s.str m).headPass with
  | some p =>
    if (s.str m).passInFlight = false ∧ s.member m p.dock = false then
      (s.emptySlot m).offer (headReplyOf p.dock .noDock [])
    else s
  | none => s

/-- A DOCK or PARAM commit at the two String Masters (R146, R147). -/
def State.commitStrings (new : State) (old : State) : State :=
  (((new.setStr .a (new.stringA.afterCommit .a old new)).setStr .b
    (new.stringB.afterCommit .b old new)).passAfterCommit .a).passAfterCommit .b

/-- The commit of a load's staged rows, with its effects on other blocks (R159). -/
def State.commitRows (s : State) (l : Loader) : State :=
  match l.table with
  | some .dock => (s.commitDocks (s.newDescs l) s.params).commitStrings s
  | some .param => (s.commitDocks s.descs (s.newParams l)).commitStrings s
  | some .cls => { s with classes := s.overlayClasses l.staging }
  | some .key => { s with keys := s.overlayKeys l.staging }
  | none => s

/-- The outcome of a commit (R154 step 4, R156). -/
def Loader.committed (l : Loader) : LoadOutcome := if l.short then .committedShort else .committed

/-- A load whose checks are run now: committed, or failed by the first check (R154 steps 3, 4; R156). -/
def State.commitLoad (s : State) (l : Loader) : State :=
  match s.checkLoad l with
  | some outcome => s.endLoad l outcome
  | none => (s.commitRows l).endLoad l l.committed

/-! ## LOAD_SEAL, LOAD_ABORT, release at a change of epoch (R154 to R156) -/

/-- The loader as a seal meets it: a partial row is discarded and the short mark set (R154 step 1). -/
def Loader.trimmed (l : Loader) : Loader := if l.buffer.isEmpty then l else { l with buffer := [], short := true }

/-- An accepted and fitting LOAD_SEAL (R154). -/
def takeLoadSeal (body : List Byte) (s : State) : State :=
  if s.loader.state = .opened then
    let l := s.loader.trimmed
    if wordAt body 0 ≠ l.sealSum ∨ (halfAt body 4).toNat ≠ l.completed then s.endLoad l .sumMismatch
    else
      match s.checkLoad l with
      | some outcome => s.endLoad l outcome
      | none =>
        if l.defer then
          { s with loader := { l with state := .waitingEpoch } }.offer (.loadReply l.held .deferred l.completed)
        else (s.commitRows l).endLoad l l.committed
  else s.loadReply .notOpen 0

/-- An accepted and fitting LOAD_ABORT (R155). DESIGN CHOICE: ABORTED carries completed count 0, for a sealed load too (log
entry 42). -/
def takeLoadAbort (s : State) : State :=
  if s.loader.state = .idle then s.loadReply .notOpen 0
  else { s with loader := s.loader.goIdle }.offer (.loadReply s.loader.held .aborted 0)

/-- A load waiting on the epoch is released (R156). -/
def State.releaseLoad (s : State) : State :=
  if s.loader.state = .waitingEpoch then s.commitLoad s.loader else s

end Sys2Proof.Machine
end

