-- ==== Sys2Proof/Machine/Clock.lean ====
section
/-! DEFINITION. The Station Clock: the tick, epoch marks, the local epoch timer, a change of epoch (chapter 7). -/

namespace Sys2Proof.Machine

/-! ## The tick (R85, R106, R113, R118, R123) -/

/-- A running timer falls by 1; one that stands at 0 waits for its expiry to be taken (log entry 6). -/
def tickTimer (t : Option Nat) : Option Nat := t.map fun n => n - 1

/-- A record at a tick (R85). -/
def Record.tick (r : Record) : Record := { r with timer := r.timer.tick }

/-- The islanded time rises by 1 while ISLANDED, holding at 655,350 (R113). -/
def State.tickIslanded (s : State) : Nat :=
  if s.isIslanded then min 655350 (s.islandedTime + 1) else s.islandedTime

/-- One tick (R118). -/
def takeTick (s : State) : State :=
  { s with presence := tickTimer s.presence, epochTimer := tickTimer s.epochTimer,
           records := s.records.map Record.tick, islandedTime := s.tickIslanded }

/-! ## A change of epoch (R39, R125) -/

/-- The Block List after a purge (R39). -/
def purged (blocks : List BlockEntry) (e : Half) : List BlockEntry :=
  blocks.filter fun b => !atOrBefore b.expiry e

/-- A change of epoch to `e`: the new E and the restarted timer, the purge, the release of a waiting load (R125). -/
def State.changeEpoch (s : State) (e : Half) : State :=
  { s with epochValid := true, epoch := e, epochTimer := some (s.params.epochLength * 10),
           blocks := purged s.blocks e }.releaseLoad

/-- An accepted and fitting EPOCH_MARK (R120, R121, R122). -/
def takeEpochMark (body : List Byte) (s : State) : State :=
  let v := halfAt body 0
  if s.epochValid then
    let d := (v - s.epoch).toNat
    if d = 0 then { s with epochTimer := some (s.params.epochLength * 10) }
    else if d ≤ 32767 then s.changeEpoch v
    else { s with behindMarks := min 255 (s.behindMarks + 1) }
  else s.changeEpoch v

/-- The expiry of the local epoch timer (R123). -/
def takeEpochExpiry (s : State) : State :=
  if s.epochValid ∧ s.epochTimer = some 0 then s.changeEpoch (s.epoch + 1) else s

/-! ## The commands -/

/-- TICK (R118). -/
def execTick (s : State) : Host.Outcome State Fault Refusal := whenRunning s takeTick

/-- LOCAL_EPOCH_TIMER_EXPIRY (R123). -/
def execLocalEpochTimerExpiry (s : State) : Host.Outcome State Fault Refusal := whenRunning s takeEpochExpiry

end Sys2Proof.Machine
end

