-- ==== Sys2Proof/Machine/Layouts.lean ====
section
/-! DEFINITION. The layouts of 10.7 that the part sends: the frame, the uplink bodies, the items of QUERY replies (R177, R182). -/

namespace Sys2Proof.Machine

/-! ## Codes (10.7) -/

/-- The kind code of an uplink frame. -/
def uplinkCode : Uplink → Byte
  | .referral _ _ _ _ _ _ _ => 0x81
  | .tapRefused _ _ _ _ _ => 0x82
  | .releaseReport _ => 0x83
  | .dockEvent _ _ => 0x84
  | .lateNotice _ _ _ _ _ _ => 0x85
  | .orderReply _ _ _ _ _ => 0x86
  | .loadReply _ _ _ => 0x87
  | .batchReply _ _ _ _ _ => 0x88
  | .headReply _ _ _ => 0x89
  | .queryReply _ _ _ _ _ _ => 0x8A
  | .stationState _ => 0x8B

/-- Dock state codes. -/
def dockStateCode : DockState → Byte
  | .unpolled => 0 | .unseen => 1 | .absent => 2 | .vacant => 3 | .holding => 4 | .checking => 5 | .opening => 6
  | .opened => 7 | .closed => 8 | .faulted => 9

/-- Source codes. -/
def sourceCode : Source → Byte
  | .localGrant => 1 | .islanded => 2 | .central => 3 | .fallback => 4 | .remote => 5

/-- Action codes. -/
def actionCode : OrderAction → Byte
  | .release => 1 | .relatch => 2 | .outOfService => 3 | .inService => 4

/-- Table codes. -/
def tableCode : TableId → Byte
  | .dock => 1 | .cls => 2 | .key => 3 | .param => 4

/-- RELEASE_REPORT outcome codes. -/
def relOutcomeCode : RelOutcome → Byte
  | .lifted => 1 | .returnedUnused => 2 | .timedOut => 3 | .lateLift => 4 | .withdrawn => 5 | .fault => 6
  | .abandoned => 7 | .settledRefused => 8

/-- ORDER_REPLY outcome codes. -/
def orderOutcomeCode : OrderOutcome → Byte
  | .done => 1 | .refusedState => 2 | .noRoom => 3 | .notPolled => 4 | .badDock => 5 | .badAction => 6

/-- LOAD_REPLY outcome codes. -/
def loadOutcomeCode : LoadOutcome → Byte
  | .opened => 1 | .badWindow => 2 | .loaderBusy => 3 | .notOpen => 4 | .badRows => 5 | .sumMismatch => 6 | .range => 7
  | .aliasClash => 8 | .dockInUse => 9 | .committed => 10 | .committedShort => 11 | .deferred => 12 | .aborted => 13

/-- Batch kind codes. -/
def batchKindCode : BatchKind → Byte
  | .rider => 1 | .block => 2

/-- BATCH_REPLY stop reason codes. -/
def stopCode : StopReason → Byte
  | .none => 0 | .batchBusy => 1 | .badBatch => 2 | .bucketFull => 3 | .listFull => 4 | .badKey => 5 | .badRecord => 6

/-- HEAD_REPLY outcome codes. -/
def headOutcomeCode : HeadOutcome → Byte
  | .done => 1 | .noDock => 2 | .badLength => 3 | .busy => 4 | .noReply => 5

/-- STATION_STATE cause codes. -/
def causeCode : StateCause → Byte
  | .powerOn => 1 | .full => 2 | .runtimeReset => 3 | .online => 4

/-- Station condition codes. -/
def conditionByte : Condition → Byte
  | .online => 1 | .islanded => 2

/-- Load state codes. -/
def loadStateCode : LoadState → Byte
  | .idle => 0 | .opened => 1 | .waitingEpoch => 2

/-- Record state codes. -/
def recStateCode : RecState → Byte
  | .referred => 1 | .opening => 2 | .opened => 3

/-- Line state codes. -/
def lineStateCode : LineState → Byte
  | .idle => 0 | .polling => 1 | .clearing => 2 | .recovering => 3

/-- Bike present codes of a context item. -/
def presenceCode : Presence → Byte
  | .unknown => 0 | .absent => 1 | .present => 2

/-- Latch codes of a context item. -/
def latchCode : Latch → Byte
  | .unknown => 0 | .opened => 1 | .closed => 2

/-- The flag byte of a bool. -/
def boolByte (b : Bool) : Byte := if b then 1 else 0

/-- A word field that is sent as 0 when absent. -/
def optWord (w : Option Word) : List Byte := wordBytes (w.getD 0)

/-- A 16-bit field that is sent as 0 when absent. -/
def optHalf (h : Option Half) : List Byte := halfBytes (h.getD 0)

/-- A class or condition code, sent as 0 when absent. -/
def optFour (c : Option (Fin 4)) : Byte := natByte ((c.map Fin.val).getD 0)

/-! ## Uplink bodies (10.7) -/

/-- The flags of a release: rider key, source, condition with class and sequence, charged, counted, bike id. -/
def releaseFlags (rider : Option Key) (source : Option Source) (cond : Option (Fin 4)) (charged counted : Bool)
    (bikeId : Option Word) : Byte :=
  flagBit rider.isSome 0 ||| flagBit source.isSome 1 ||| flagBit cond.isSome 2 ||| flagBit charged 3 |||
    flagBit counted 4 ||| flagBit bikeId.isSome 5

/-- The detail and fault code bytes of a RELEASE_REPORT. -/
def detailBytes : ReportDetail → List Byte
  | .nothing => [0, 0]
  | .withdrawnBy a => [actionCode a, 0]
  | .unlatchFailed => [1, 0]
  | .headFault code => [2, code]
  | .dockAbsent => [3, 0]
  | .refusedWith r => [reasonCode r, 0]

/-- A RELEASE_REPORT body: 20 bytes. -/
def releaseReportBody (r : ReleaseReport) : List Byte :=
  halfBytes r.number ++ [natByte r.dock.val, relOutcomeCode r.outcome,
    releaseFlags r.rider r.source r.cond r.charged r.counted r.bikeId] ++ optWord r.rider ++
    [(r.source.map sourceCode).getD 0, optFour r.cond, optFour r.cls] ++ optHalf r.seq ++ optWord r.bikeId ++
    detailBytes r.detail

/-- A DOCK_EVENT body: 8 bytes. -/
def dockEventBody (d : DockNo) : DockEvent → List Byte
  | .present latchClosed bikeThere bikeId =>
    [natByte d.val, 1, flagBit latchClosed 0 ||| flagBit bikeThere 1 ||| flagBit bikeId.isSome 2] ++ optWord bikeId ++ [0]
  | .absent => [natByte d.val, 2, 0] ++ optWord none ++ [0]
  | .docked bikeId => [natByte d.val, 3, flagBit bikeId.isSome 2] ++ optWord bikeId ++ [0]
  | .forcedLift bikeId => [natByte d.val, 4, flagBit bikeId.isSome 2] ++ optWord bikeId ++ [0]
  | .headFault code => [natByte d.val, 5, 0] ++ optWord none ++ [code]

/-- A STATION_STATE body: 22 bytes (R179). -/
def stationStateBody (r : StationReport) : List Byte :=
  [causeCode r.cause] ++ natBytes2 r.stationCode.toNat ++ [conditionByte r.condition, boolByte r.epochValid] ++
    halfBytes r.epoch ++ [natByte r.behindMarks, natByte r.closeMismatch] ++ natBytes2 r.badFrames ++
    natBytes2 r.foreignFrames ++ [natByte r.drops, loadStateCode r.loadState, natByte r.recordCount, natByte r.aborted,
    natByte r.discarded] ++ natBytes2 r.islandedSeconds ++ natBytes2 r.islandedGrants

/-- The body of an uplink frame (10.7). -/
def uplinkBody : Uplink → List Byte
  | .referral n d k cls c seq unchecked =>
    halfBytes n ++ [natByte d.val] ++ wordBytes k ++ [natByte cls.val, natByte c.val] ++ halfBytes seq ++
      [flagBit unchecked 0]
  | .tapRefused d r k seq c =>
    [natByte d.val, reasonCode r] ++ wordBytes k ++ halfBytes seq ++ [flagBit c.isSome 0 ||| (optFour c <<< 1)]
  | .releaseReport r => releaseReportBody r
  | .dockEvent d e => dockEventBody d e
  | .lateNotice n d k grant reason hadAllowance =>
    halfBytes n ++ [d] ++ wordBytes k ++ [boolByte grant, reason, flagBit hadAllowance 0]
  | .orderReply d a outcome st release => [d, a, orderOutcomeCode outcome, dockStateCode st] ++ optHalf release
  | .loadReply held outcome completed =>
    (match held with
      | some (t, first, last) => [tableCode t, natByte first, natByte last]
      | none => [0, 0, 0]) ++ [loadOutcomeCode outcome] ++ natBytes2 completed
  | .batchReply kind n applied stop key =>
    [batchKindCode kind] ++ halfBytes n ++ [natByte applied, stopCode stop] ++ wordBytes key
  | .headReply d outcome payload => [d, headOutcomeCode outcome, natByte payload.length] ++ payload
  | .queryReply target bad first count nextIndex items =>
    [target, boolByte bad] ++ halfBytes first ++ [natByte count, flagBit nextIndex.isSome 0] ++
      natBytes2 (nextIndex.getD 0) ++ items
  | .stationState r => stationStateBody r

/-! ## Frames (R170, R177, 10.7) -/

/-- The bytes that a frame's CRC covers: length, code field, kind, body (R170). -/
def frameCore (code : Half) (kind : Byte) (body : List Byte) : List Byte :=
  natBytes2 body.length ++ halfBytes code ++ [kind] ++ body

/-- The bytes of a frame with the CRC given. -/
def frameWith (code : Half) (kind : Byte) (body : List Byte) (crc : Half) : List Byte :=
  [0xA5] ++ frameCore code kind body ++ halfBytes crc

/-- The bytes of a frame with its right CRC. -/
def frameBytes (code : Half) (kind : Byte) (body : List Byte) : List Byte :=
  frameWith code kind body (crc16 (frameCore code kind body))

/-- The bytes that LTXD carries for an uplink frame: the strapped code in the low 12 bits of the code field (R177). -/
def uplinkBytes (stationCode : BitVec 12) (f : Uplink) : List Byte :=
  frameBytes (stationCode.zeroExtend 16) (uplinkCode f) (uplinkBody f)

/-! ## Items of QUERY replies (R164, R166, 10.7) -/

/-- A DOCK row: two words as committed, ignored bits 0. DESIGN CHOICE: the mode MASK is sent as 0 (log entry 43). -/
def dockRowItem (x : DockDesc) : List Byte :=
  [match x.kind with
    | .empty => 0
    | .standard => 1
    | .ebike => 2,
   x.aliasNo, natByte x.minLevel.val,
   match x.mode with
    | .close => 1
    | .mask => 0,
   x.localMask.zeroExtend 8, x.islandedMask.zeroExtend 8, 0, 0]

/-- A CLASS row: its word as committed. -/
def classRowItem (x : ClassRow) : List Byte := [natByte x.limit, boolByte x.ebike, boolByte x.charge, 0]

/-- A string range: the word of PARAM rows 4 and 5. -/
def rangeItem (r : StringRange) : List Byte := [r.first, r.last, 0, 0]

/-- A PARAM row: its word as committed. -/
def paramRowItem (p : Params) : Nat → List Byte
  | 0 => wordBytes (BitVec.ofNat 32 p.presenceTimeout)
  | 1 => wordBytes (BitVec.ofNat 32 p.referralTimeout)
  | 2 => wordBytes (BitVec.ofNat 32 p.liftTimeout)
  | 3 => wordBytes (BitVec.ofNat 32 p.epochLength)
  | 4 => rangeItem p.rangeA
  | _ => rangeItem p.rangeB

/-- A KEY row: its valid flag and no key word. -/
def keyRowItem (x : KeyRow) : List Byte := [boolByte x.valid]

/-- The used set of a rider item: 16 places, members first. -/
def usedPlaces (used : List Half) : List Byte := ((used ++ List.replicate 16 0).take 16).flatMap halfBytes

/-- The flags of a rider item. -/
def riderFlags (e : RiderEntry) : Byte :=
  flagBit true 0 ||| flagBit e.review 1 ||| flagBit e.pinned 2 ||| flagBit e.provisional 3 ||| flagBit e.dropPending 4 |||
    flagBit e.top.isSome 5

/-- A rider item: 45 bytes. -/
def riderItem (k : Key) : Option RiderEntry → List Byte
  | none => wordBytes k ++ List.replicate 41 0
  | some e =>
    wordBytes k ++ [riderFlags e, natByte e.cls.val, natByte e.allowance, natByte e.bikesOut] ++ optHalf e.top ++
      halfBytes e.lastUse ++ [natByte e.used.length] ++ usedPlaces e.used

/-- A Block List item. -/
def blockItem (e : BlockEntry) : List Byte := wordBytes e.key ++ halfBytes e.expiry

/-- The timer of a record item and its remaining ticks. -/
def timerBytes : RecTimer → List Byte
  | .none => [0] ++ natBytes2 0
  | .referral n => [1] ++ natBytes2 n
  | .lift n => [2] ++ natBytes2 n

/-- A record item: 24 bytes. -/
def recordItem (r : Record) : List Byte :=
  halfBytes r.number ++ [natByte r.dock.val, recStateCode r.state,
    releaseFlags r.rider r.source r.cond r.charged r.counted r.bikeId] ++ optWord r.rider ++
    [(r.source.map sourceCode).getD 0, optFour r.cond, optFour r.cls] ++ optHalf r.seq ++ optWord r.bikeId ++
    timerBytes r.timer ++ [0, 0, 0]

/-- The order code of a context item: 0 when the slot is empty. -/
def slotCode (o : Option Order) : Byte := (o.map orderCode).getD 0

/-- A context item: 20 bytes. -/
def contextItem (c : DockContext) : List Byte :=
  [dockStateCode c.state,
   presenceCode c.bikePresent ||| (latchCode c.latch <<< 2) ||| flagBit c.bikeId.isSome 4 ||| flagBit c.owed.isSome 5 |||
     flagBit ((c.owed.bind Owed.rider).isSome) 6 ||| flagBit ((c.owed.map Owed.charged).getD false) 7] ++
    optWord c.bikeId ++
    [slotCode c.order ||| (natByte c.tries <<< 2) ||| (indicatorCode c.indicator <<< 4) ||| flagBit c.record.isSome 6 |||
       flagBit c.unsent 7,
     c.serial, indicatorReason c.indicator, indicatorDetail c.indicator, natByte c.missCount, natByte c.crcErrors] ++
    optHalf (c.owed.map Owed.release) ++ optWord (c.owed.bind Owed.rider) ++ optHalf c.record

/-- A string of the counter item: 4 bytes. -/
def stringItem (x : StringMaster) : List Byte :=
  [lineStateCode x.line, natByte x.cycle.val,
   match x.position with
    | some d => natByte d.val
    | none => 0xFF,
   natByte x.stuck]

/-- A dock of the counter item: 4 bytes. -/
def dockCountItem (c : DockContext) : List Byte := [natByte c.crcErrors, natByte c.missCount] ++ natBytes2 c.unreported

/-- The loader of the counter item: load state, table, window, row counter, completed count. -/
def loaderItem (l : Loader) : List Byte :=
  [loadStateCode l.state, (l.table.map tableCode).getD 0, natByte ((l.window.map Prod.fst).getD 0),
   natByte ((l.window.map Prod.snd).getD 0), natByte l.rowCounter] ++ natBytes2 l.completed

/-- The batch slot of the counter item. -/
def batchItem (b : Option Batch) : List Byte :=
  [(b.map fun b => batchKindCode b.kind).getD 0] ++ optHalf (b.map Batch.number) ++ [natByte ((b.map Batch.applied).getD 0)]

/-- The counter item: 229 bytes (R166). -/
def State.counterItem (s : State) : List Byte :=
  natBytes2 s.badFrames ++ natBytes2 s.foreignFrames ++ [natByte s.drops, conditionByte s.condition, boolByte s.epochValid] ++
    halfBytes s.curEpoch ++ [natByte s.behindMarks] ++ natBytes2 (s.epochTimer.getD 0) ++ [natByte s.closeMismatch] ++
    natBytes2 s.riderCount ++ natBytes2 s.blocks.length ++ [natByte s.records.length] ++ loaderItem s.loader ++
    batchItem s.batch ++ stringItem s.stringA ++ stringItem s.stringB ++
    allDocks.flatMap fun d => dockCountItem (s.ctx d)

end Sys2Proof.Machine
end

