-- ==== Sys2Proof/Machine/Orders.lean ====
section
/-! DEFINITION. Dock orders: RELEASE, RELATCH, OUT_OF_SERVICE, IN_SERVICE and their ORDER_REPLY (3.8). -/

namespace Sys2Proof.Machine

/-! ## RELEASE (R58) -/

/-- RELEASE is taken at a dock in HOLDING with no relatch owed (R58). -/
def State.releasable (s : State) (d : DockNo) : Bool := (s.ctx d).state == .holding && (s.ctx d).owed.isNone

/-- The record that a RELEASE creates (R58). -/
def remoteRecord (s : State) (d : DockNo) : Record :=
  { number := s.newNumber, dock := d, rider := none, state := .opening, source := some .remote, cond := none, cls := none,
    seq := none, charged := false, counted := false, bikeId := (s.ctx d).bikeId, timer := .none }

/-- A RELEASE that is done: the record, the dock (R58). -/
def State.releaseDone (s : State) (d : DockNo) : State :=
  (s.addRecord (remoteRecord s d)).modCtx d fun c => c.grantTo s.newNumber

/-- What an order does: its outcome, the state it leaves, the release number of a RELEASE that is done. -/
structure OrderResult where
  outcome : OrderOutcome
  after : State
  release : Option Half
  deriving DecidableEq, Repr

/-- An order that is refused changes nothing (R57). -/
def State.refuseOrder (s : State) (outcome : OrderOutcome) : OrderResult := { outcome := outcome, after := s, release := none }

/-- RELEASE (R58). -/
def State.orderRelease (s : State) (d : DockNo) : OrderResult :=
  if s.releasable d = false then s.refuseOrder .refusedState
  else if s.listFull then s.refuseOrder .noRoom
  else { outcome := .done, after := s.releaseDone d, release := some s.newNumber }

/-! ## RELATCH and OUT_OF_SERVICE (R59, R60, R99) -/

/-- The dock of a record withdrawn by RELATCH (R59). -/
def DockContext.relatchHolding (c : DockContext) : DockContext := ((c.setOrder .relatch).moveTo .holding).setLight .dark

/-- RELATCH taken in OPENING or OPEN (R59, R99). -/
def State.withdrawRelatch (s : State) (d : DockNo) : State :=
  s.removeAt d true (some (.withdrawn, .withdrawnBy .relatch)) fun s => s.modCtx d DockContext.relatchHolding

/-- RELATCH (R59). -/
def State.orderRelatch (s : State) (d : DockNo) : OrderResult :=
  if (s.ctx d).state = .opening ∨ (s.ctx d).state = .opened then
    { outcome := .done, after := s.withdrawRelatch d, release := none }
  else s.refuseOrder .refusedState

/-- The dock to CLOSED with DARK (R60). -/
def DockContext.close (c : DockContext) : DockContext := (c.moveTo .closed).setLight .dark

/-- OUT_OF_SERVICE from CHECKING (R60, R92). -/
def State.closeChecking (s : State) (d : DockNo) : State :=
  s.removeAt d false (some (.withdrawn, .withdrawnBy .outOfService)) fun s =>
    s.modCtx d fun c => (c.setLight (.red .dockClosed 0)).close

/-- OUT_OF_SERVICE from OPENING or OPEN (R60, R99). -/
def State.closeWithdraw (s : State) (d : DockNo) : State :=
  s.removeAt d true (some (.withdrawn, .withdrawnBy .outOfService)) fun s =>
    s.modCtx d fun c => (c.setOrder .relatch).close

/-- OUT_OF_SERVICE (R60). -/
def State.orderOutOfService (s : State) (d : DockNo) : OrderResult :=
  let after := match (s.ctx d).state with
    | .checking => s.closeChecking d
    | .opening => s.closeWithdraw d
    | .opened => s.closeWithdraw d
    | .unpolled => s
    | .unseen => s.modCtx d DockContext.close
    | .absent => s.modCtx d DockContext.close
    | .vacant => s.modCtx d DockContext.close
    | .holding => s.modCtx d DockContext.close
    | .closed => s.modCtx d DockContext.close
    | .faulted => s.modCtx d DockContext.close
  { outcome := .done, after := after, release := none }

/-! ## IN_SERVICE (R61) -/

/-- The state a dock leaves CLOSED or FAULTED for, by its fields (R61). -/
def DockContext.serviceState (c : DockContext) : DockState :=
  if c.missCount = 8 then .absent
  else
    match c.bikePresent with
    | .unknown => .unseen
    | .present => .holding
    | .absent => .vacant

/-- The dock of an IN_SERVICE that is taken (R61). -/
def DockContext.restore (c : DockContext) : DockContext :=
  let t := (c.moveTo c.serviceState).setLight .dark
  if t.state = .holding then t.closeLatch else t

/-- IN_SERVICE (R61). -/
def State.orderInService (s : State) (d : DockNo) : OrderResult :=
  if (s.ctx d).state = .closed ∨ (s.ctx d).state = .faulted then
    { outcome := .done, after := s.modCtx d DockContext.restore, release := none }
  else s.refuseOrder .refusedState

/-! ## DOCK_ORDER (R57) -/

/-- What an order of a known action does at a dock (R57). -/
def State.orderAt (s : State) (d : DockNo) (a : OrderAction) : OrderResult :=
  if (s.ctx d).state = .unpolled then s.refuseOrder .notPolled
  else
    match a with
    | .release => s.orderRelease d
    | .relatch => s.orderRelatch d
    | .outOfService => s.orderOutOfService d
    | .inService => s.orderInService d

/-- The ORDER_REPLY, queued after what the order itself queues (R57; log entry 17). -/
def OrderResult.reply (x : OrderResult) (d : DockNo) (action : Byte) : State :=
  x.after.offer (.orderReply (natByte d.val) action x.outcome (x.after.ctx d).state x.release)

/-- An accepted and fitting DOCK_ORDER (R57). DESIGN CHOICE: the dock number is judged before the action code (log entry 40). -/
def takeDockOrder (body : List Byte) (s : State) : State :=
  let action := byteAt body 1
  match dockOfByte (byteAt body 0) with
  | none => s.offer (.orderReply (byteAt body 0) action .badDock .unpolled none)
  | some d =>
    match actionOf action with
    | none => (s.refuseOrder .badAction).reply d action
    | some a => (s.orderAt d a).reply d action

end Sys2Proof.Machine
end

