-- ==== Sys2Proof/Machine/Query.lean ====
section
/-! DEFINITION. QUERY: reads of the tables, lists, contexts and counters, and the counter clear (9.6). -/

namespace Sys2Proof.Machine

/-! ## Indexed targets (R165) -/

/-- The number of items a reply holds: the requested count, the items left, the items that fit (R165). -/
def replyCount (total fit first requested : Nat) : Nat := min (min requested (total - first)) fit

/-- The next index: present when items did not fit and requested items remain (R165). -/
def replyNext (total fit first requested : Nat) : Option Nat :=
  if fit < min requested (total - first) then some (first + fit) else none

/-- The reply of an indexed target from the items it holds, in order (R165). -/
def indexedReply (target : Byte) (items : List (List Byte)) (fit : Nat) (first : Half) (requested : Nat) : Uplink :=
  let n := replyCount items.length fit first.toNat requested
  .queryReply target false first n (replyNext items.length fit first.toNat requested)
    ((items.drop first.toNat).take n).flatten

/-- The first index of a QUERY body (10.7). -/
def queryFirst (body : List Byte) : Half := halfAt body 1

/-- The requested count of a QUERY body (10.7). -/
def queryCount (body : List Byte) : Nat := (byteAt body 3).toNat

/-- The clear flag of a QUERY body (10.7). -/
def queryClear (body : List Byte) : Bool := (byteAt body 4).getLsbD 0

/-! ## The items each target holds (R164) -/

/-- The DOCK rows in row order. -/
def State.dockRowItems (s : State) : List (List Byte) := allDocks.map fun d => dockRowItem (s.desc d)

/-- The CLASS rows in row order. -/
def State.classRowItems (s : State) : List (List Byte) := (List.finRange 4).map fun c => classRowItem (s.classRow c)

/-- The PARAM rows in row order. -/
def State.paramRowItems (s : State) : List (List Byte) := (List.range 6).map fun i => paramRowItem s.params i

/-- The KEY rows in slot order. -/
def State.keyRowItems (s : State) : List (List Byte) := (List.finRange 4).map fun k => keyRowItem (s.keyRow k)

/-- The Block List in key order. -/
def State.blockItems (s : State) : List (List Byte) := s.blocks.map blockItem

/-- The Release List, oldest first. -/
def State.recordItems (s : State) : List (List Byte) := s.records.map recordItem

/-- The Dock Contexts in dock order. -/
def State.contextItems (s : State) : List (List Byte) := allDocks.map fun d => contextItem (s.ctx d)

/-- The reply to a QUERY by rider key (R164). -/
def State.riderReply (s : State) (k : Key) : Uplink := .queryReply 5 false 0 1 none (riderItem k (s.lookup k))

/-- The counter reply (R166). -/
def State.counterReply (s : State) : Uplink := .queryReply 9 false 0 1 none s.counterItem

/-- The reply to a QUERY whose target code names none of the nine (R164; first index sent as 0: log entry 21). -/
def badQuery (target : Byte) : Uplink := .queryReply target true 0 0 none []

/-! ## The counter clear (R79, R166) -/

/-- The counts of a dock context that the counter clear sets to 0. -/
def DockContext.clearCounts (c : DockContext) : DockContext := { c with crcErrors := 0, missCount := 0, unreported := 0 }

/-- The counts that the counter clear sets to 0 (R166). -/
def State.clearCounts (s : State) : State :=
  { s with badFrames := 0, foreignFrames := 0, drops := 0 }.mapCtxs fun _ c => c.clearCounts

/-- A QUERY of the counters: the reply, then, with the clear flag and a reply that joined the queue, the clear (R166). -/
def takeCounters (clear : Bool) (s : State) : State :=
  if clear = true ∧ s.hasRoom = true then (s.offer s.counterReply).clearCounts else s.offer s.counterReply

/-! ## The target (R164) -/

/-- An accepted and fitting QUERY (R164 to R166). -/
def takeQuery (body : List Byte) (s : State) : State :=
  let first := queryFirst body
  let n := queryCount body
  match (byteAt body 0).toNat with
  | 1 => s.offer (indexedReply 1 s.dockRowItems 31 first n)
  | 2 => s.offer (indexedReply 2 s.classRowItems 4 first n)
  | 3 => s.offer (indexedReply 3 s.paramRowItems 6 first n)
  | 4 => s.offer (indexedReply 4 s.keyRowItems 4 first n)
  | 5 => s.offer (s.riderReply (wordAt body 1))
  | 6 => s.offer (indexedReply 6 s.blockItems 41 first n)
  | 7 => s.offer (indexedReply 7 s.recordItems 10 first n)
  | 8 => s.offer (indexedReply 8 s.contextItems 12 first n)
  | 9 => takeCounters (queryClear body) s
  | _ => s.offer (badQuery (byteAt body 0))

end Sys2Proof.Machine
end

