-- ==== Sys2Proof/Machine/Reset.lean ====
section
/-! DEFINITION. The resets: power-on and RESETN, STATION_RESET of both scopes (R34, R40, R41, R63, R104, R116, R117, R128,
R148, R149, R174, R178, R180). -/

namespace Sys2Proof.Machine

/-! ## Power-on, RESETN, full reset -/

/-- Every block as after power-on, with the station code and the first STATION_STATE given; what the reset does not reach is
kept from `s`: the commands that wait, the transmitter and what has left it (R178). -/
def State.blankStation (s : State) (stationCode : BitVec 12) (first : StationReport) : State :=
  { State.reset with stationCode := stationCode, uplink := [.stationState first], transmitter := s.transmitter,
                     lastSent := s.lastSent, pending := s.pending }

/-- Power-on or the release of RESETN: the straps sampled, every block at its power-on state (R9, R178, R180). -/
def takePowerOn (straps : BitVec 12) (s : State) : State :=
  { s with transmitter := .fill, lastSent := none }.blankStation straps (.powerOn straps)

/-- The STATION_STATE of a full reset (R179, R180). -/
def fullReport (stationCode : BitVec 12) (discarded : Nat) : StationReport :=
  { StationReport.powerOn stationCode with cause := .full, discarded := discarded }

/-- STATION_RESET FULL (R116, R174): the Islanding Monitor makes no return to online. -/
def takeFullReset (s : State) : State := s.blankStation s.stationCode (fullReport s.stationCode s.uplink.length)

/-- RESETN goes low: the frame in transmission is cut off and LTXD is held (R178). -/
def takeResetn (s : State) : State := { s with resetnLow := true, transmitter := .held }

/-! ## The runtime reset -/

/-- A dock whose record the runtime reset removes (R63, R104). -/
def DockContext.abort (c : DockContext) (st : RecState) : DockContext :=
  match st with
  | .referred => (c.moveTo .unseen).setLight (.red .noAnswer 0)
  | .opening => ((c.moveTo .unseen).setOrder .relatch).setLight .dark
  | .opened => ((c.moveTo .unseen).setOrder .relatch).setLight .dark

/-- One record removed by the runtime reset: its entry's changes, its dock, the drop-pending test; no report (R34, R84, R104). -/
def State.abortRecord (s : State) (r : Record) : State :=
  s.removeRecord r (r.state != .referred) none fun s => s.modCtx r.dock fun c => c.abort r.state

/-- Every record removed, oldest first (R104). -/
def State.abortAll (s : State) : State := s.records.foldl State.abortRecord s

/-- A polled dock after a runtime reset, its record gone (R63); `named` when a record named it before the reset. -/
def DockContext.runtimeReset (c : DockContext) (named : Bool) : DockContext :=
  { ((if named then c else c.setLight .dark).moveTo .unseen).forgetStatus with
      tries := 0, missCount := 0, owed := none, unsent := true }

/-- The Dock Contexts after a runtime reset: every polled dock is UNSEEN (R63). -/
def State.resetDocks (s : State) (named : List DockNo) : State :=
  s.mapCtxs fun d c => if s.polled d then c.runtimeReset (named.contains d) else c

/-- A String Master after a runtime reset (R148). DESIGN CHOICE: the cycle count 0 is that of the first cycle (log entry 41). -/
def StringMaster.runtimeReset (x : StringMaster) (noMember : Bool) : StringMaster :=
  { x with line := if x.line = .recovering then .recovering else if noMember then .idle else .clearing,
           cycle := 0, position := none, exchange := none, headPass := none,
           driverEnable := if x.line = .recovering then x.driverEnable else false }

/-- A String Master of the station takes the runtime reset (R148). -/
def State.resetString (s : State) (m : StringId) : State :=
  s.setStr m ((s.str m).runtimeReset (s.members m).isEmpty)

/-- The blocks take the runtime reset (R34, R63, R104, R148, R149, R163). -/
def State.runtimeBlocks (s : State) : State :=
  { ((((s.abortAll).resetDocks (s.records.map Record.dock)).resetString .a).resetString .b) with
      loader := .initial, batch := none }

/-- STATION_RESET RUNTIME (R116, R174, R180): the queue emptied, the blocks, the STATION_STATE, then the acceptance. -/
def takeRuntimeReset (s : State) : State :=
  let t := { s with uplink := [] }.runtimeBlocks
  (t.offer (.stationState (t.stationReport .runtimeReset s.records.length s.uplink.length 0 0))).heard

/-- An accepted and fitting STATION_RESET (R174). -/
def takeStationReset (body : List Byte) (s : State) : State :=
  if byteAt body 0 = 1 then takeRuntimeReset s else takeFullReset s

/-! ## The commands -/

/-- POWER_ON_RESET (R178): the one command taken while RESETN is low. -/
def execPowerOnReset (straps : BitVec 12) (s : State) : Host.Outcome State Fault Refusal := .next (takePowerOn straps s)

/-- RESETN_ASSERTED (R178). -/
def execResetnAsserted (s : State) : Host.Outcome State Fault Refusal := whenRunning s takeResetn

end Sys2Proof.Machine
end

