-- ==== Sys2Proof/Machine/Link.lean ====
section
/-! DEFINITION. The Station Link Port: the deframer, the judgement of a frame, the handing of accepted frames to their owners,
the transmitter; the commands that are downlink frames (chapter 10). -/

namespace Sys2Proof.Machine

/-! ## The deframer (R168) -/

/-- What a byte taken by the deframer brings about (R168). -/
inductive RxEvent
  | nothing
  | oversize
  /-- a complete frame: its bytes after the start byte -/
  | complete (frame : List Byte)
  deriving DecidableEq, Repr

/-- The deframer's step on the last byte of a field: `got` with that byte (10.2). -/
def Deframer.turn (d : Deframer) (got : List Byte) : Deframer × RxEvent :=
  match d.stage with
  | .hunt => (d, .nothing)
  | .length =>
    if 1024 < (halfAt got 0).toNat then (.initial, .oversize)
    else ({ stage := .code, len := (halfAt got 0).toNat, got := got }, .nothing)
  | .code => ({ d with stage := .kind, got := got }, .nothing)
  | .kind => ({ d with stage := if d.len = 0 then .crc else .body, got := got }, .nothing)
  | .body => ({ d with stage := .crc, got := got }, .nothing)
  | .crc => (.initial, .complete got)

/-- The bytes since the start byte when the field in hand is whole (10.2). -/
def Deframer.fieldEnd (d : Deframer) : Nat :=
  match d.stage with
  | .hunt => 0
  | .length => 2
  | .code => 4
  | .kind => 5
  | .body => 5 + d.len
  | .crc => 7 + d.len

/-- One byte taken by the deframer (R168). -/
def Deframer.feed (d : Deframer) (b : Byte) : Deframer × RxEvent :=
  if d.stage = .hunt then
    (if b = 0xA5 then { stage := .length, len := 0, got := [] } else d, .nothing)
  else if d.got.length + 1 < d.fieldEnd then ({ d with got := d.got ++ [b] }, .nothing)
  else d.turn (d.got ++ [b])

/-! ## Accepted frames (R172, R173) -/

/-- An accepted frame taken by its owner (R173). -/
def State.handOver (s : State) (k : DownKind) (body : List Byte) : State :=
  match k with
  | .verdict => takeVerdict body s
  | .credit => takeCredit body s
  | .closeRide => takeCloseRide body s
  | .loadOpen => takeLoadOpen body s
  | .loadRows => takeLoadRows body s
  | .loadSeal => takeLoadSeal body s
  | .loadAbort => takeLoadAbort s
  | .riderBatch => takeBatch .rider body s
  | .blockBatch => takeBatch .block body s
  | .epochMark => takeEpochMark body s
  | .dockOrder => takeDockOrder body s
  | .headPass => takeHeadPass body s
  | .query => takeQuery body s
  | .stationReset => takeStationReset body s

/-- An accepted frame (R107, R172 to R174): the Islanding Monitor first, then its owner, but for a STATION_RESET, which takes
the acceptance itself; a frame that is not fit keeps its acceptance and is counted bad. -/
def State.acceptFrame (s : State) (k : DownKind) (body : List Byte) : State :=
  if fits k body then (if k = .stationReset then s.handOver k body else s.heard.handOver k body)
  else s.heard.countBad

/-! ## Judging a complete frame (R170) -/

/-- A complete frame judged: CRC, station code, kind (R170); `frame` is its bytes after the start byte. -/
def State.judgeFrame (s : State) (frame : List Byte) : State :=
  let n := frame.length - 7
  if crc16 (frame.take (5 + n)) ≠ halfAt frame (5 + n) then s.countBad
  else if s.codeMatches (halfAt frame 2) = false then s.countForeign
  else
    match downKindOf (byteAt frame 4) with
    | none => s.countBad
    | some k => s.acceptFrame k ((frame.drop 5).take n)

/-- One character received on LRXD (R167, R168). -/
def State.rxByte (s : State) (b : Byte) : State :=
  match s.deframer.feed b with
  | (d, .nothing) => { s with deframer := d }
  | (d, .oversize) => { s with deframer := d }.countBad
  | (d, .complete frame) => { s with deframer := d }.judgeFrame frame

/-- Characters received on LRXD, one after the other. -/
def State.rxChars (s : State) (bs : List Byte) : State := bs.foldl State.rxByte s

/-- A frame in assembly is abandoned; in HUNT nothing happens (R169). -/
def State.abandonFrame (s : State) : State :=
  if s.deframer.stage = .hunt then s else { s with deframer := .initial }.countBad

/-! ## The transmitter (R176) -/

/-- A transmission begins, when the transmitter is free, a frame waits and LINK_READY is high (R176). -/
def takeTransmitStart (linkReady : Bool) (s : State) : State :=
  match s.transmitter, s.uplink with
  | .fill, f :: rest =>
    if linkReady then { s with uplink := rest, transmitter := .sending f (uplinkBytes s.stationCode f) } else s
  | _, _ => s

/-- A transmission ends: the frame is taken as sent and LTXD carries fill (R176). -/
def takeTransmitEnd (s : State) : State :=
  match s.transmitter with
  | .sending f _ => { s with transmitter := .fill, lastSent := some f }
  | _ => s

/-! ## The commands that are frames -/

/-- The characters of a frame of a downlink kind, with the right CRC, are received. -/
def receive (k : DownKind) (code : Half) (body : List Byte) (s : State) : Host.Outcome State Fault Refusal :=
  whenRunning s fun s => s.rxChars (frameBytes code (downCode k) body)

/-- VERDICT (R86). -/
def execVerdict (code : Half) (body : List Byte) (s : State) : Host.Outcome State Fault Refusal :=
  receive .verdict code body s

/-- CREDIT (R30). -/
def execCredit (code : Half) (body : List Byte) (s : State) : Host.Outcome State Fault Refusal :=
  receive .credit code body s

/-- CLOSE_RIDE (R31). -/
def execCloseRide (code : Half) (body : List Byte) (s : State) : Host.Outcome State Fault Refusal :=
  receive .closeRide code body s

/-- LOAD_OPEN (R151). -/
def execLoadOpen (code : Half) (body : List Byte) (s : State) : Host.Outcome State Fault Refusal :=
  receive .loadOpen code body s

/-- LOAD_ROWS (R152). -/
def execLoadRows (code : Half) (body : List Byte) (s : State) : Host.Outcome State Fault Refusal :=
  receive .loadRows code body s

/-- LOAD_SEAL (R154). -/
def execLoadSeal (code : Half) (body : List Byte) (s : State) : Host.Outcome State Fault Refusal :=
  receive .loadSeal code body s

/-- LOAD_ABORT (R155). -/
def execLoadAbort (code : Half) (body : List Byte) (s : State) : Host.Outcome State Fault Refusal :=
  receive .loadAbort code body s

/-- RIDER_BATCH (R162). -/
def execRiderBatch (code : Half) (body : List Byte) (s : State) : Host.Outcome State Fault Refusal :=
  receive .riderBatch code body s

/-- BLOCK_BATCH (R162). -/
def execBlockBatch (code : Half) (body : List Byte) (s : State) : Host.Outcome State Fault Refusal :=
  receive .blockBatch code body s

/-- EPOCH_MARK (R120, R121). -/
def execEpochMark (code : Half) (body : List Byte) (s : State) : Host.Outcome State Fault Refusal :=
  receive .epochMark code body s

/-- DOCK_ORDER_RELEASE (R58). -/
def execDockOrderRelease (code : Half) (body : List Byte) (s : State) : Host.Outcome State Fault Refusal :=
  receive .dockOrder code body s

/-- DOCK_ORDER_RELATCH (R59). -/
def execDockOrderRelatch (code : Half) (body : List Byte) (s : State) : Host.Outcome State Fault Refusal :=
  receive .dockOrder code body s

/-- OUT_OF_SERVICE (R60). -/
def execOutOfService (code : Half) (body : List Byte) (s : State) : Host.Outcome State Fault Refusal :=
  receive .dockOrder code body s

/-- IN_SERVICE (R61). -/
def execInService (code : Half) (body : List Byte) (s : State) : Host.Outcome State Fault Refusal :=
  receive .dockOrder code body s

/-- DOCK_ORDER_BAD_ACTION (R57). -/
def execDockOrderBadAction (code : Half) (body : List Byte) (s : State) : Host.Outcome State Fault Refusal :=
  receive .dockOrder code body s

/-- HEAD_PASS (R143). -/
def execHeadPass (code : Half) (body : List Byte) (s : State) : Host.Outcome State Fault Refusal :=
  receive .headPass code body s

/-- QUERY_DOCK_ROWS (R164). -/
def execQueryDockRows (code : Half) (body : List Byte) (s : State) : Host.Outcome State Fault Refusal :=
  receive .query code body s

/-- QUERY_CLASS_ROWS (R164). -/
def execQueryClassRows (code : Half) (body : List Byte) (s : State) : Host.Outcome State Fault Refusal :=
  receive .query code body s

/-- QUERY_PARAM_ROWS (R164). -/
def execQueryParamRows (code : Half) (body : List Byte) (s : State) : Host.Outcome State Fault Refusal :=
  receive .query code body s

/-- QUERY_KEY (R164). -/
def execQueryKey (code : Half) (body : List Byte) (s : State) : Host.Outcome State Fault Refusal :=
  receive .query code body s

/-- QUERY_RIDER (R164). -/
def execQueryRider (code : Half) (body : List Byte) (s : State) : Host.Outcome State Fault Refusal :=
  receive .query code body s

/-- QUERY_BLOCK_LIST (R165). -/
def execQueryBlockList (code : Half) (body : List Byte) (s : State) : Host.Outcome State Fault Refusal :=
  receive .query code body s

/-- QUERY_RELEASE_LIST (R165). -/
def execQueryReleaseList (code : Half) (body : List Byte) (s : State) : Host.Outcome State Fault Refusal :=
  receive .query code body s

/-- QUERY_DOCK_CONTEXTS (R164). -/
def execQueryDockContexts (code : Half) (body : List Byte) (s : State) : Host.Outcome State Fault Refusal :=
  receive .query code body s

/-- QUERY_COUNTERS (R166). -/
def execQueryCounters (code : Half) (body : List Byte) (s : State) : Host.Outcome State Fault Refusal :=
  receive .query code body s

/-- QUERY_COUNTER_CLEAR (R166). -/
def execQueryCounterClear (code : Half) (body : List Byte) (s : State) : Host.Outcome State Fault Refusal :=
  receive .query code body s

/-- STATION_RESET_RUNTIME (R174). -/
def execStationResetRuntime (code : Half) (body : List Byte) (s : State) : Host.Outcome State Fault Refusal :=
  receive .stationReset code body s

/-- STATION_RESET_FULL (R174). -/
def execStationResetFull (code : Half) (body : List Byte) (s : State) : Host.Outcome State Fault Refusal :=
  receive .stationReset code body s

/-! ## The other commands of the link -/

/-- BAD_FRAME: the characters of a frame with the kind code and the CRC given (R170). -/
def execBadFrame (code : Half) (kind : Byte) (body : List Byte) (crc : Half) (s : State) :
    Host.Outcome State Fault Refusal :=
  whenRunning s fun s => s.rxChars (frameWith code kind body crc)

/-- FOREIGN_FRAME: the characters of a frame with the right CRC (R170, R171). -/
def execForeignFrame (code : Half) (kind : Byte) (body : List Byte) (s : State) : Host.Outcome State Fault Refusal :=
  whenRunning s fun s => s.rxChars (frameBytes code kind body)

/-- LENGTH_OVERSIZE: a start byte and two length bytes (R168). -/
def execLengthOversize (length : Half) (s : State) : Host.Outcome State Fault Refusal :=
  whenRunning s fun s => s.rxChars (0xA5 :: halfBytes length)

/-- FRAME_GAP_TIMEOUT: the characters, then four character times without one (R169). -/
def execFrameGapTimeout (chars : List Byte) (s : State) : Host.Outcome State Fault Refusal :=
  whenRunning s fun s => (s.rxChars chars).abandonFrame

/-- FRAMING_ERROR: the characters, then a character with a framing error (R169). -/
def execFramingError (chars : List Byte) (s : State) : Host.Outcome State Fault Refusal :=
  whenRunning s fun s => (s.rxChars chars).abandonFrame

/-- TRANSMIT_START (R176). -/
def execTransmitStart (linkReady : Bool) (s : State) : Host.Outcome State Fault Refusal :=
  whenRunning s (takeTransmitStart linkReady)

/-- TRANSMIT_END (R176). -/
def execTransmitEnd (s : State) : Host.Outcome State Fault Refusal := whenRunning s takeTransmitEnd

end Sys2Proof.Machine
end

