-- ==== Sys2Proof/Machine/Dispatch.lean ====
section
/-! DEFINITION. The dispatch: one arm per command, each a direct call of its meaning. -/

namespace Sys2Proof.Machine

def exec (i : Instr) (s : State) : Host.Outcome State Fault Refusal :=
  match i with
  | .powerOnReset straps => Sys2Proof.Machine.execPowerOnReset straps s
  | .tick => Sys2Proof.Machine.execTick s
  | .verdict code body => Sys2Proof.Machine.execVerdict code body s
  | .credit code body => Sys2Proof.Machine.execCredit code body s
  | .closeRide code body => Sys2Proof.Machine.execCloseRide code body s
  | .loadOpen code body => Sys2Proof.Machine.execLoadOpen code body s
  | .loadRows code body => Sys2Proof.Machine.execLoadRows code body s
  | .loadSeal code body => Sys2Proof.Machine.execLoadSeal code body s
  | .loadAbort code body => Sys2Proof.Machine.execLoadAbort code body s
  | .riderBatch code body => Sys2Proof.Machine.execRiderBatch code body s
  | .blockBatch code body => Sys2Proof.Machine.execBlockBatch code body s
  | .put => Sys2Proof.Machine.execPut s
  | .drop => Sys2Proof.Machine.execDrop s
  | .add => Sys2Proof.Machine.execAdd s
  | .remove => Sys2Proof.Machine.execRemove s
  | .epochMark code body => Sys2Proof.Machine.execEpochMark code body s
  | .dockOrderRelease code body => Sys2Proof.Machine.execDockOrderRelease code body s
  | .dockOrderRelatch code body => Sys2Proof.Machine.execDockOrderRelatch code body s
  | .outOfService code body => Sys2Proof.Machine.execOutOfService code body s
  | .inService code body => Sys2Proof.Machine.execInService code body s
  | .headPass code body => Sys2Proof.Machine.execHeadPass code body s
  | .queryDockRows code body => Sys2Proof.Machine.execQueryDockRows code body s
  | .queryClassRows code body => Sys2Proof.Machine.execQueryClassRows code body s
  | .queryParamRows code body => Sys2Proof.Machine.execQueryParamRows code body s
  | .queryKey code body => Sys2Proof.Machine.execQueryKey code body s
  | .queryRider code body => Sys2Proof.Machine.execQueryRider code body s
  | .queryBlockList code body => Sys2Proof.Machine.execQueryBlockList code body s
  | .queryReleaseList code body => Sys2Proof.Machine.execQueryReleaseList code body s
  | .queryDockContexts code body => Sys2Proof.Machine.execQueryDockContexts code body s
  | .queryCounters code body => Sys2Proof.Machine.execQueryCounters code body s
  | .queryCounterClear code body => Sys2Proof.Machine.execQueryCounterClear code body s
  | .stationResetRuntime code body => Sys2Proof.Machine.execStationResetRuntime code body s
  | .stationResetFull code body => Sys2Proof.Machine.execStationResetFull code body s
  | .badFrame code kind body crc => Sys2Proof.Machine.execBadFrame code kind body crc s
  | .foreignFrame code kind body => Sys2Proof.Machine.execForeignFrame code kind body s
  | .lengthOversize length => Sys2Proof.Machine.execLengthOversize length s
  | .frameGapTimeout chars => Sys2Proof.Machine.execFrameGapTimeout chars s
  | .framingError chars => Sys2Proof.Machine.execFramingError chars s
  | .presenceTimerExpiry => Sys2Proof.Machine.execPresenceTimerExpiry s
  | .referralTimerExpiry release => Sys2Proof.Machine.execReferralTimerExpiry release s
  | .liftTimerExpiry release => Sys2Proof.Machine.execLiftTimerExpiry release s
  | .localEpochTimerExpiry => Sys2Proof.Machine.execLocalEpochTimerExpiry s
  | .pollSend m => Sys2Proof.Machine.execPollSend m s
  | .ordinaryExchangeEnd m rx => Sys2Proof.Machine.execOrdinaryExchangeEnd m rx s
  | .passExchangeEnd m rx => Sys2Proof.Machine.execPassExchangeEnd m rx s
  | .lineStuck m => Sys2Proof.Machine.execLineStuck m s
  | .breakPulsesDone m => Sys2Proof.Machine.execBreakPulsesDone m s
  | .recoveryTimerExpiry m => Sys2Proof.Machine.execRecoveryTimerExpiry m s
  | .transmitStart linkReady => Sys2Proof.Machine.execTransmitStart linkReady s
  | .transmitEnd => Sys2Proof.Machine.execTransmitEnd s
  | .resetnAsserted => Sys2Proof.Machine.execResetnAsserted s
  | .pollLastCharacterEnd m => Sys2Proof.Machine.execPollLastCharacterEnd m s
  | .dockOrderBadAction code body => Sys2Proof.Machine.execDockOrderBadAction code body s

end Sys2Proof.Machine
end

