-- ==== Sys2Proof/WellFormed.lean ====
section
/-! DEFINITION. When a command says what its row of spec/opcode_table.json says: its body fits on the line, its sub-code
is not another row's, its characters fit in a reply window. The meanings do not ask this; a command that is not well
formed is still taken, as the characters it stands for. -/

namespace Sys2Proof

/-- The frame body a command carries; the empty list for a command that is no frame. -/
def Instr.frameBody : Instr → List Byte
  | .verdict _ body | .credit _ body | .closeRide _ body | .loadOpen _ body | .loadRows _ body | .loadSeal _ body
  | .loadAbort _ body | .riderBatch _ body | .blockBatch _ body | .epochMark _ body | .dockOrderRelease _ body
  | .dockOrderRelatch _ body | .outOfService _ body | .inService _ body | .headPass _ body | .queryDockRows _ body
  | .queryClassRows _ body | .queryParamRows _ body | .queryKey _ body | .queryRider _ body | .queryBlockList _ body
  | .queryReleaseList _ body | .queryDockContexts _ body | .queryCounters _ body | .queryCounterClear _ body
  | .stationResetRuntime _ body | .stationResetFull _ body | .dockOrderBadAction _ body => body
  | .badFrame _ _ body _ | .foreignFrame _ _ body => body
  | .powerOnReset _ | .tick | .put | .drop | .add | .remove | .lengthOversize _ | .frameGapTimeout _ | .framingError _
  | .presenceTimerExpiry | .referralTimerExpiry _ | .liftTimerExpiry _ | .localEpochTimerExpiry | .pollSend _
  | .ordinaryExchangeEnd _ _ | .passExchangeEnd _ _ | .lineStuck _ | .breakPulsesDone _ | .recoveryTimerExpiry _
  | .transmitStart _ | .transmitEnd | .resetnAsserted | .pollLastCharacterEnd _ => []

/-- The characters that can end within one reply window of 1.5 ms at 40 µs a character (R129, R135). -/
def maxReplyChars : Nat := 37

/-- The byte at that offset of the body, where there is one, is the row's own code or none of the codes of other rows. -/
def ownSubCode (body : List Byte) (offset : Nat) (own : Byte) (codes : List Byte) : Bool :=
  match body[offset]? with
  | none => true
  | some c => c == own || !codes.contains c

/-- The QUERY target codes (R182). -/
def queryTargets : List Byte := [1, 2, 3, 4, 5, 6, 7, 8, 9]

/-- The DOCK_ORDER action codes (R182). -/
def orderActions : List Byte := [1, 2, 3, 4]

/-- The STATION_RESET scope codes (R182). -/
def resetScopes : List Byte := [1, 2]

/-- The clear flag of a counters QUERY: bit 0 of the fifth byte (R182). -/
def clearFlagSet (body : List Byte) : Bool := (body.getD 4 0).getLsbD 0

/-- What a command must meet beside its body's length. -/
def Instr.shapeOk : Instr → Bool
  | .dockOrderRelease _ body => ownSubCode body 1 1 orderActions
  | .dockOrderRelatch _ body => ownSubCode body 1 2 orderActions
  | .outOfService _ body => ownSubCode body 1 3 orderActions
  | .inService _ body => ownSubCode body 1 4 orderActions
  | .dockOrderBadAction _ body => match body[1]? with | none => true | some c => !orderActions.contains c
  | .queryDockRows _ body => ownSubCode body 0 1 queryTargets
  | .queryClassRows _ body => ownSubCode body 0 2 queryTargets
  | .queryParamRows _ body => ownSubCode body 0 3 queryTargets
  | .queryKey _ body => ownSubCode body 0 4 queryTargets
  | .queryRider _ body => ownSubCode body 0 5 queryTargets
  | .queryBlockList _ body => ownSubCode body 0 6 queryTargets
  | .queryReleaseList _ body => ownSubCode body 0 7 queryTargets
  | .queryDockContexts _ body => ownSubCode body 0 8 queryTargets
  | .queryCounters _ body => ownSubCode body 0 9 queryTargets && !clearFlagSet body
  | .queryCounterClear _ body => ownSubCode body 0 9 queryTargets && clearFlagSet body
  | .stationResetRuntime _ body => ownSubCode body 0 1 resetScopes
  | .stationResetFull _ body => ownSubCode body 0 2 resetScopes
  | .lengthOversize n => decide (1024 < n.toNat)
  | .ordinaryExchangeEnd _ rx => decide (rx.length ≤ maxReplyChars)
  | .passExchangeEnd _ rx => decide (rx.length ≤ maxReplyChars)
  | .powerOnReset _ | .tick | .verdict _ _ | .credit _ _ | .closeRide _ _ | .loadOpen _ _ | .loadRows _ _ | .loadSeal _ _
  | .loadAbort _ _ | .riderBatch _ _ | .blockBatch _ _ | .put | .drop | .add | .remove | .epochMark _ _ | .headPass _ _
  | .badFrame _ _ _ _ | .foreignFrame _ _ _ | .frameGapTimeout _ | .framingError _ | .presenceTimerExpiry
  | .referralTimerExpiry _ | .liftTimerExpiry _ | .localEpochTimerExpiry | .pollSend _ | .lineStuck _ | .breakPulsesDone _
  | .recoveryTimerExpiry _ | .transmitStart _ | .transmitEnd | .resetnAsserted | .pollLastCharacterEnd _ => true

/-- A well-formed command: a body of at most 1,024 bytes (R168) and the shape of its row. -/
def Instr.wf (i : Instr) : Bool := decide (i.frameBody.length ≤ 1024) && i.shapeOk

end Sys2Proof
end

