-- ==== Sys2Proof/Safety.lean ====
section
/-! DEFINITION. The terms in which statements about the part are made: when the part listens, which frame a command is, what a
fitting body is, the power-on values of every block, the invariants that every step keeps. -/

namespace Sys2Proof.Machine

/-! ## Frames -/

/-- RESETN is high, no frame is in assembly, and the station code of the frame to come matches (R168, R171, R178). -/
def Listening (s : State) (code : Half) : Prop :=
  s.resetnLow = false ∧ s.deframer = .initial ∧ s.codeMatches code = true

/-- The downlink frame that a command is: its kind, station-code field and body. -/
def frameOf : Instr → Option (DownKind × Half × List Byte)
  | .verdict code body => some (.verdict, code, body)
  | .credit code body => some (.credit, code, body)
  | .closeRide code body => some (.closeRide, code, body)
  | .loadOpen code body => some (.loadOpen, code, body)
  | .loadRows code body => some (.loadRows, code, body)
  | .loadSeal code body => some (.loadSeal, code, body)
  | .loadAbort code body => some (.loadAbort, code, body)
  | .riderBatch code body => some (.riderBatch, code, body)
  | .blockBatch code body => some (.blockBatch, code, body)
  | .epochMark code body => some (.epochMark, code, body)
  | .dockOrderRelease code body => some (.dockOrder, code, body)
  | .dockOrderRelatch code body => some (.dockOrder, code, body)
  | .outOfService code body => some (.dockOrder, code, body)
  | .inService code body => some (.dockOrder, code, body)
  | .dockOrderBadAction code body => some (.dockOrder, code, body)
  | .headPass code body => some (.headPass, code, body)
  | .queryDockRows code body => some (.query, code, body)
  | .queryClassRows code body => some (.query, code, body)
  | .queryParamRows code body => some (.query, code, body)
  | .queryKey code body => some (.query, code, body)
  | .queryRider code body => some (.query, code, body)
  | .queryBlockList code body => some (.query, code, body)
  | .queryReleaseList code body => some (.query, code, body)
  | .queryDockContexts code body => some (.query, code, body)
  | .queryCounters code body => some (.query, code, body)
  | .queryCounterClear code body => some (.query, code, body)
  | .stationResetRuntime code body => some (.stationReset, code, body)
  | .stationResetFull code body => some (.stationReset, code, body)
  | .badFrame _ _ _ _ => none
  | .foreignFrame _ _ _ => none
  | .powerOnReset _ => none
  | .tick => none
  | .put => none
  | .drop => none
  | .add => none
  | .remove => none
  | .lengthOversize _ => none
  | .frameGapTimeout _ => none
  | .framingError _ => none
  | .presenceTimerExpiry => none
  | .referralTimerExpiry _ => none
  | .liftTimerExpiry _ => none
  | .localEpochTimerExpiry => none
  | .pollSend _ => none
  | .ordinaryExchangeEnd _ _ => none
  | .passExchangeEnd _ _ => none
  | .lineStuck _ => none
  | .breakPulsesDone _ => none
  | .recoveryTimerExpiry _ => none
  | .transmitStart _ => none
  | .transmitEnd => none
  | .resetnAsserted => none
  | .pollLastCharacterEnd _ => none

/-! ## Bodies and records in statements -/

/-- The body of a VERDICT (10.7). -/
def verdictBody (n : Half) (d : Byte) (k : Key) (grant : Bool) (reason flags allowance : Byte) : List Byte :=
  halfBytes n ++ [d] ++ wordBytes k ++ [if grant then 1 else 0, reason, flags, allowance]

/-- A LOAD_REPLY about the load that the loader holds. -/
def heldReply (s : State) (outcome : LoadOutcome) (completed : Nat) : Uplink := .loadReply s.loader.held outcome completed

/-- The part runs, and the batch slot holds that record as the next of that batch. -/
def NextRecord (s : State) (b : Batch) (r : BatchRecord) : Prop :=
  s.resetnLow = false ∧ s.batch = some b ∧ b.records[b.next]? = some r

/-- The command that takes a record of a kind code: the kind's own; any of the four for a code of no kind (log entry 26). -/
def TakesRecord (i : Instr) (kind : Byte) : Prop :=
  (i = .put ∧ kind = 1) ∨ (i = .drop ∧ kind = 2) ∨ (i = .add ∧ kind = 3) ∨ (i = .remove ∧ kind = 4) ∨
  ((i = .put ∨ i = .drop ∨ i = .add ∨ i = .remove) ∧ kind ≠ 1 ∧ kind ≠ 2 ∧ kind ≠ 3 ∧ kind ≠ 4)

/-- A record's kind belongs to its batch's kind (9.5). -/
def Belongs (kind : BatchKind) (code : Byte) : Prop :=
  (kind = .rider ∧ (code = 1 ∨ code = 2)) ∨ (kind = .block ∧ (code = 3 ∨ code = 4))

/-- The batch leaves the slot with its BATCH_REPLY. -/
def batchEnds (s : State) (b : Batch) (applied : Nat) (stop : StopReason) (key : Key) : State :=
  { s with batch := none }.offer (.batchReply b.kind b.number applied stop key)

/-- The current epoch (R119). -/
def nowOf (s : State) : Half := if s.epochValid then s.epoch else 0

/-- A change of epoch to `e` (R125): E and the timer, the purge, the release of a waiting load. -/
def epochChanged (s : State) (e : Half) : State :=
  { s with epochValid := true, epoch := e, epochTimer := some (s.params.epochLength * 10),
           blocks := s.blocks.filter fun b => decide (32768 ≤ (e - b.expiry).toNat) }.releaseLoad

/-- The dock of a grant: OPENING under that release, UNLATCH set, GREEN (R50, R54). -/
def granted (n : Half) (c : DockContext) : DockContext :=
  { c with state := .opening, record := some n, order := some .unlatch, serial := c.serial + 1, tries := 0,
           indicator := .green, unsent := true }

/-- A refusal shown at the dock: RED with its reason (R54). -/
def redAt (s : State) (d : DockNo) (r : Reason) : State :=
  s.modCtx d fun c => { c with indicator := .red r 0, unsent := true }

/-- A RELEASE_REPORT of a record that is not LIFTED (R102). -/
def reportFor (r : Record) (outcome : RelOutcome) (detail : ReportDetail) : Uplink :=
  .releaseReport { number := r.number, dock := r.dock, outcome := outcome, rider := r.rider, source := r.source,
                   cond := r.cond, cls := r.cls, seq := r.seq, charged := r.charged, counted := r.counted, bikeId := none,
                   detail := detail }

/-- The String Master once its exchange is over: no exchange in flight, CLEARING, or IDLE when it keeps no member (R138, R147). -/
def exchangeOver (s : State) (m : StringId) : State :=
  s.setStr m (if s.members m = []
    then { s.str m with exchange := none, line := .idle, cycle := 0, position := none, driverEnable := false }
    else { s.str m with exchange := none, line := .clearing })

/-- The reply window of that exchange is open: POLLING, the poll's last character gone (R135; log entry 28). -/
def WindowOpen (s : State) (m : StringId) (e : Exchange) (kind : PollKind) : Prop :=
  s.resetnLow = false ∧ (s.str m).exchange = some e ∧ (s.str m).line = .polling ∧ (s.str m).driverEnable = false ∧
  e.kind = kind

/-! ## Power-on values -/

/-- What every block holds after power-on, RESETN and a full station reset (R3, R34, R40, R41, R43, R79, R104, R117, R128, R148,
R149, R150, R163, R168, R181). -/
def AtPowerOn (t : State) : Prop :=
  (t.resetnLow = false ∧ t.deframer = .initial ∧ t.badFrames = 0 ∧ t.foreignFrames = 0 ∧ t.drops = 0) ∧
  (t.condition = .islanded ∧ t.presence = none ∧ t.islandedTime = 0 ∧ t.islandedGrants = 0) ∧
  (t.epochValid = false ∧ t.epoch = 0 ∧ t.epochTimer = none ∧ t.behindMarks = 0) ∧
  (t.loader.state = .idle ∧ t.loader.table = none ∧ t.loader.window = none ∧ t.loader.buffer = [] ∧ t.loader.staging = [] ∧
    t.loader.sealSum = 0 ∧ t.loader.completed = 0 ∧ t.loader.short = false ∧ t.batch = none) ∧
  (∀ m, (t.str m).line = .idle ∧ (t.str m).cycle = 0 ∧ (t.str m).position = none ∧ (t.str m).exchange = none ∧
    (t.str m).headPass = none ∧ (t.str m).stuck = 0 ∧ (t.str m).recoveryTimer = none ∧ (t.str m).driverEnable = false) ∧
  (t.params.presenceTimeout = 30 ∧ t.params.referralTimeout = 4 ∧ t.params.liftTimeout = 20 ∧ t.params.epochLength = 600 ∧
    t.params.rangeA = { first := 0, last := 23 } ∧ t.params.rangeB = { first := 24, last := 47 }) ∧
  (∀ d, t.desc d = { kind := .empty, aliasNo := 0, minLevel := 0, localMask := 0, islandedMask := 0, mode := .mask }) ∧
  (∀ d, t.ctx d = { state := .unpolled, bikePresent := .unknown, latch := .unknown, bikeId := none, order := none, serial := 0,
                    tries := 0, indicator := .dark, unsent := false, missCount := 0, crcErrors := 0, owed := none,
                    record := none, unreported := 0 }) ∧
  (∀ c, t.classRow c = { limit := 0, ebike := false, charge := false }) ∧
  (∀ k, t.keyRow k = { valid := false, k0 := 0, k1 := 0, k2 := 0, k3 := 0, k4 := 0 }) ∧
  (∀ b w, (t.bucket b).get w = none) ∧
  t.closeMismatch = 0 ∧ t.blocks = [] ∧ t.records = [] ∧ t.nextNumber = 0

/-! ## Invariants -/

/-- Every count lies in the range that the manual gives it (R79, R105, R122, R130, R149, R175, R181, 3.2). -/
def CountsBounded (s : State) : Prop :=
  s.uplink.length ≤ 64 ∧ s.badFrames ≤ 65535 ∧ s.foreignFrames ≤ 65535 ∧ s.drops ≤ 255 ∧ s.behindMarks ≤ 255 ∧
  s.closeMismatch ≤ 255 ∧ s.islandedTime ≤ 655350 ∧ s.islandedGrants ≤ 65535 ∧ s.loader.completed ≤ 65535 ∧
  (∀ m, (s.str m).stuck ≤ 255) ∧
  ∀ d, (s.ctx d).tries ≤ 3 ∧ (s.ctx d).missCount ≤ 8 ∧ (s.ctx d).crcErrors ≤ 255 ∧ (s.ctx d).unreported ≤ 65535

/-- The Block List is in strictly ascending key order, without key 0, of at most 512 entries (R35). -/
def BlockListOrdered (s : State) : Prop :=
  (s.blocks.map BlockEntry.key).Pairwise (· < ·) ∧ s.blocks.length ≤ 512 ∧ ∀ e ∈ s.blocks, e.key ≠ 0

/-- A sequence window: empty while top is absent; else top first, then members ever further behind it, none more than 15
behind (R25). -/
def WindowSound (e : RiderEntry) : Prop :=
  match e.top with
  | none => e.used = []
  | some t =>
    e.used.head? = some t ∧ (e.used.map fun m => (t - m).toNat).Pairwise (· < ·) ∧ ∀ m ∈ e.used, (t - m).toNat ≤ 15

/-- A rider entry: a key that is not 0, allowance and bikes-out in range, a sound window (R16, R25, R28). -/
def EntrySound (e : RiderEntry) : Prop := e.key ≠ 0 ∧ e.allowance ≤ 63 ∧ e.bikesOut ≤ 15 ∧ WindowSound e

/-- The Rider Table: sound entries, each in the bucket of its key, no key twice (R16, R17, R18). -/
def RiderTableSound (s : State) : Prop :=
  (∀ b w e, (s.bucket b).get w = some e → EntrySound e ∧ bucketOf e.key = b) ∧
  ∀ b w w' e e', (s.bucket b).get w = some e → (s.bucket b).get w' = some e' → e.key = e'.key → w = w'

/-- The dock state that goes with a record's state (R44). -/
def stateOfRecord : RecState → DockState
  | .referred => .checking
  | .opening => .opening
  | .opened => .opened

/-- A dock is in one of the three states in which a record names it (R44). -/
def Held (c : DockContext) : Prop := c.state = .checking ∨ c.state = .opening ∨ c.state = .opened

/-- A record's fields agree with its state: source, flags and timer (R81, R85). -/
def RecordSound (r : Record) : Prop :=
  match r.state with
  | .referred => r.source = none ∧ r.charged = false ∧ r.counted = false ∧ r.rider.isSome = true ∧ r.cond.isSome = true ∧
      ∃ n, r.timer = .referral n
  | .opening => r.source.isSome = true ∧ r.timer = .none
  | .opened => r.source.isSome = true ∧ ∃ n, r.timer = .lift n

/-- Records and docks name each other: a dock is CHECKING, OPENING or OPEN exactly when a record names it, in the matching state;
release numbers and docks are distinct; a dock is UNPOLLED exactly when it is not polled (R42, R44, R81, R82). -/
def RecordsMatchDocks (s : State) : Prop :=
  s.records.length ≤ 16 ∧ (s.records.map Record.number).Nodup ∧ (s.records.map Record.dock).Nodup ∧
  (∀ r ∈ s.records, (s.ctx r.dock).state = stateOfRecord r.state ∧ (s.ctx r.dock).record = some r.number) ∧
  (∀ d, Held (s.ctx d) → ∃ r ∈ s.records, r.dock = d) ∧
  (∀ d, (s.ctx d).record.isSome = true → Held (s.ctx d)) ∧
  ∀ d, (s.ctx d).state = .unpolled ↔ s.polled d = false

/-- A counted record's rider has an entry, and only counted records are charged (R22, R81, R84). -/
def CountedRidersKept (s : State) : Prop :=
  ∀ r ∈ s.records, (r.charged = true → r.counted = true) ∧
    (r.counted = true → ∃ k, r.rider = some k ∧ (s.lookup k).isSome = true)

/-- The Release List with its docks and its riders (R22, R42, R44, R81, R82, R84, R85). -/
def ReleasesSound (s : State) : Prop :=
  RecordsMatchDocks s ∧ (∀ r ∈ s.records, RecordSound r) ∧ CountedRidersKept s

/-- The presence timer runs exactly while the station is ONLINE, no record is REFERRED while it is ISLANDED, the local epoch
timer runs exactly while the epoch is valid, and E is 0 while it is not (R106, R109, R111, R119, R123, R128). -/
def ConditionSound (s : State) : Prop :=
  (s.condition = .online ↔ s.presence.isSome = true) ∧
  (s.condition = .islanded → ∀ r ∈ s.records, r.state ≠ .referred) ∧
  (s.epochValid = true ↔ s.epochTimer.isSome = true) ∧ (s.epochValid = false → s.epoch = 0)

/-- The Table Loader: nothing held in IDLE; else a window within its table, the row counter within the window, less than a row
in the buffer, whole rows of the window staged in row order (R149, R151); the buffer is empty while a load waits (R154). -/
def LoaderSound (l : Loader) : Prop :=
  (l.state = .idle → l.table = none ∧ l.window = none ∧ l.buffer = [] ∧ l.staging = []) ∧
  (l.state ≠ .idle → ∃ t first last, l.table = some t ∧ l.window = some (first, last) ∧ first ≤ last ∧ last < tableRows t ∧
    first ≤ l.rowCounter ∧ l.rowCounter ≤ last ∧ l.buffer.length < wordsPerRow t ∧
    (l.staging.map Prod.fst).Pairwise (· < ·) ∧
    ∀ p ∈ l.staging, first ≤ p.1 ∧ p.1 ≤ last ∧ p.2.length = wordsPerRow t) ∧
  (l.state = .waitingEpoch → l.buffer = [])

/-- The batch slot: a batch in progress has a next record, at most 32 records, and as many applied as taken (R162). -/
def BatchSound (b : Option Batch) : Prop :=
  match b with
  | none => True
  | some b => b.next < b.records.length ∧ b.records.length ≤ 32 ∧ b.applied = b.next

/-- The loads in progress: window load and batch (R149, R162). -/
def LoadsSound (s : State) : Prop := LoaderSound s.loader ∧ BatchSound s.batch

/-- A String Master: an exchange in flight exactly in POLLING; IDLE only without members, and then with its position and cycle
count cleared; the driver enable low in IDLE and CLEARING; pulses and recovery timer only in RECOVERING, the timer after the pulses with the
driver enable low (R130, R131, R141, R147). -/
def StringSound (s : State) (m : StringId) : Prop :=
  ((s.str m).line = .polling ↔ (s.str m).exchange.isSome = true) ∧
  ((s.str m).line = .idle → s.members m = [] ∧ (s.str m).position = none ∧ (s.str m).cycle = 0) ∧
  ((s.str m).line = .idle ∨ (s.str m).line = .clearing → (s.str m).driverEnable = false) ∧
  ((s.str m).line ≠ .recovering → (s.str m).pulses = 0 ∧ (s.str m).recoveryTimer = none) ∧
  ((s.str m).recoveryTimer.isSome = true → (s.str m).pulses = 0 ∧ (s.str m).driverEnable = false)

/-- Both String Masters. -/
def StringsSound (s : State) : Prop := ∀ m, StringSound s m

/-- The deframer holds no byte in HUNT; elsewhere it holds fewer bytes than end its field, and a length it has judged (10.2,
R168). -/
def DeframerSound (s : State) : Prop :=
  (s.deframer.stage = .hunt → s.deframer = .initial) ∧
  (s.deframer.stage ≠ .hunt → s.deframer.len ≤ 1024 ∧ s.deframer.got.length < s.deframer.fieldEnd)

end Sys2Proof.Machine
end

