-- ==== Sys2Proof/Certificates/Slice0/Obligations.lean ====
section
/-! DEFINITION. The statements for the provers. A statement about a frame is made of a part that listens for its station code;
`s.heard` is the station after the frame's acceptance, which AcceptanceOfAFrame describes. -/

open Sys2Proof Sys2Proof.Machine

/-! ## The queue of commands, resets -/

/-- A step takes the command at the front of the queue and runs it with the queue's rest; on an empty queue the part idles (the
model's own queue and its idling: log entries 2 and 32). -/
def Obligations.StepRunsTheFrontCommand : Prop :=
  (∀ (c : Instr) (rest : List Instr) (s : State), s.pending = c :: rest → step s = exec c { s with pending := rest }) ∧
  ∀ s : State, s.pending = [] → step s = .next s

/-- Power-on, or the release of RESETN, samples the straps, sets every block to its power-on values and queues STATION_STATE
POWER_ON as the one frame of the queue. STATION_RESET FULL: every block as at power-on, the station code kept, the frames that
waited discarded and counted in the STATION_STATE FULL, the frame in transmission kept, and no return to online. -/
def Obligations.PowerOnAndFullReset : Prop :=
  (∀ (straps : BitVec 12) (s : State), ∃ t : State,
     exec (.powerOnReset straps) s = .next t ∧ AtPowerOn t ∧ t.stationCode = straps ∧ t.transmitter = .fill ∧
     t.uplink = [.stationState
       { cause := .powerOn, stationCode := straps, condition := .islanded, epochValid := false, epoch := 0, behindMarks := 0,
         closeMismatch := 0, badFrames := 0, foreignFrames := 0, drops := 0, loadState := .idle, recordCount := 0,
         aborted := 0, discarded := 0, islandedSeconds := 0, islandedGrants := 0 }] ∧
     t.pending = s.pending) ∧
  ∀ (code : Half) (s : State), Listening s code → ∃ t : State,
    exec (.stationResetFull code [2]) s = .next t ∧ AtPowerOn t ∧ t.stationCode = s.stationCode ∧
    t.transmitter = s.transmitter ∧
    t.uplink = [.stationState
      { cause := .full, stationCode := s.stationCode, condition := .islanded, epochValid := false, epoch := 0,
        behindMarks := 0, closeMismatch := 0, badFrames := 0, foreignFrames := 0, drops := 0, loadState := .idle,
        recordCount := 0, aborted := 0, discarded := s.uplink.length, islandedSeconds := 0, islandedGrants := 0 }] ∧
    t.pending = s.pending

/-- The state after reset holds the power-on values of every block, no command waits, and every invariant holds. -/
def Obligations.ResetStateIsSound : Prop :=
  (AtPowerOn State.reset ∧ State.reset.uplink.length = 1 ∧ State.reset.pending = []) ∧
  (CountsBounded State.reset ∧ BlockListOrdered State.reset ∧ RiderTableSound State.reset ∧ ReleasesSound State.reset) ∧
  ConditionSound State.reset ∧ LoadsSound State.reset ∧ StringsSound State.reset ∧ DeframerSound State.reset

/-- STATION_RESET RUNTIME at every block but the Rider Table and the Dock Contexts: the queue holds STATION_STATE RUNTIME_RESET
and, when the station was ISLANDED, STATION_STATE ONLINE; no record is left; loader and batch slot are empty; the String Masters
start afresh; the rest is kept; the station is ONLINE with its presence timer restarted. -/
def Obligations.RuntimeResetOfTheStation : Prop :=
  ∀ (code : Half) (s : State), Listening s code → ∃ t : State,
    exec (.stationResetRuntime code [1]) s = .next t ∧
    t = { s with uplink := t.uplink, presence := some (s.params.presenceTimeout * 10), condition := .online,
                 islandedTime := if s.condition = .islanded then 0 else s.islandedTime,
                 islandedGrants := if s.condition = .islanded then 0 else s.islandedGrants, loader := .initial, batch := none,
                 stringA := t.stringA, stringB := t.stringB, ctxs := t.ctxs, riders := t.riders, records := [] } ∧
    (∃ first : StationReport,
      first = { cause := .runtimeReset, stationCode := s.stationCode, condition := s.condition, epochValid := s.epochValid,
                epoch := if s.epochValid then s.epoch else 0, behindMarks := s.behindMarks,
                closeMismatch := s.closeMismatch, badFrames := s.badFrames, foreignFrames := s.foreignFrames,
                drops := s.drops, loadState := .idle, recordCount := 0, aborted := s.records.length,
                discarded := s.uplink.length, islandedSeconds := 0, islandedGrants := 0 } ∧
      (s.condition = .online → t.uplink = [.stationState first]) ∧
      (s.condition = .islanded → t.uplink = [.stationState first, .stationState { first with
        cause := .online, condition := .online, aborted := 0, discarded := 0, islandedSeconds := s.islandedTime / 10,
        islandedGrants := s.islandedGrants }])) ∧
    ∀ m, (t.str m).cycle = 0 ∧ (t.str m).position = none ∧ (t.str m).exchange = none ∧ (t.str m).headPass = none ∧
      (t.str m).stuck = (s.str m).stuck ∧
      (t.str m).line = (if (s.str m).line = .recovering then .recovering
                        else if s.members m = [] then .idle else .clearing)

/-- STATION_RESET RUNTIME at the Dock Contexts: every polled dock is UNSEEN with its status forgotten and its indicator unsent;
a dock whose record was OPENING or OPEN has a RELATCH set and DARK, one whose record was REFERRED has RED NO_ANSWER, every
other polled dock DARK; an UNPOLLED dock is left as it was. -/
def Obligations.RuntimeResetOfTheDocks : Prop :=
  ∀ (code : Half) (s : State), Listening s code → RecordsMatchDocks s → ∃ t : State,
    exec (.stationResetRuntime code [1]) s = .next t ∧
    (∀ d, s.polled d = false → t.ctx d = s.ctx d) ∧
    ∀ d, s.polled d = true →
      (∀ r ∈ s.records, r.dock = d → r.state ≠ .referred →
        t.ctx d = { s.ctx d with
          state := .unseen, bikePresent := .unknown, latch := .unknown, bikeId := none, order := some .relatch,
          serial := (s.ctx d).serial + 1, tries := 0, indicator := .dark, unsent := true, missCount := 0, owed := none,
          record := none }) ∧
      (∀ r ∈ s.records, r.dock = d → r.state = .referred →
        t.ctx d = { s.ctx d with
          state := .unseen, bikePresent := .unknown, latch := .unknown, bikeId := none, tries := 0,
          indicator := .red .noAnswer 0, unsent := true, missCount := 0, owed := none, record := none }) ∧
      ((∀ r ∈ s.records, r.dock ≠ d) →
        t.ctx d = { s.ctx d with
          state := .unseen, bikePresent := .unknown, latch := .unknown, bikeId := none, tries := 0, indicator := .dark,
          unsent := true, missCount := 0, owed := none, record := none })

/-- STATION_RESET RUNTIME at the Rider Table: for each record of a rider in OPENING or OPEN, bikes-out falls by 1 if it was
counted and allowance rises by 1 if it was charged; a named drop-pending entry is removed; every other entry is kept. -/
def Obligations.RuntimeResetOfTheRiders : Prop :=
  ∀ (code : Half) (s : State), Listening s code → RiderTableSound s → ReleasesSound s → ∃ t : State,
    exec (.stationResetRuntime code [1]) s = .next t ∧
    ∀ k, t.lookup k = (s.lookup k).bind fun e =>
      if e.dropPending = true ∧ s.named k = true then none
      else some { e with
        bikesOut := e.bikesOut - s.records.countP fun r => r.rider == some k && r.state != .referred && r.counted
        allowance := min 63 (e.allowance + s.records.countP fun r => r.rider == some k && r.state != .referred && r.charged) }

/-! ## Frames received -/

/-- The acceptance of a frame at the Islanding Monitor: an ONLINE station restarts its presence timer; an ISLANDED station
returns to online: ONLINE, the timer started, STATION_STATE ONLINE offered, the two counts 0, every polled dock of mode CLOSE
unsent. -/
def Obligations.AcceptanceOfAFrame : Prop :=
  ∀ s : State,
    (s.condition = .online → s.heard = { s with presence := some (s.params.presenceTimeout * 10) }) ∧
    (s.condition = .islanded →
      s.heard = { s with presence := some (s.params.presenceTimeout * 10), condition := .online, islandedTime := 0,
                         islandedGrants := 0, uplink := s.heard.uplink, drops := s.heard.drops, ctxs := s.heard.ctxs } ∧
      (∃ r : StationReport,
        r = { cause := .online, stationCode := s.stationCode, condition := .online, epochValid := s.epochValid,
              epoch := if s.epochValid then s.epoch else 0, behindMarks := s.behindMarks, closeMismatch := s.closeMismatch,
              badFrames := s.badFrames, foreignFrames := s.foreignFrames, drops := s.drops, loadState := s.loader.state,
              recordCount := s.records.length, aborted := 0, discarded := 0, islandedSeconds := s.islandedTime / 10,
              islandedGrants := s.islandedGrants } ∧
        (s.uplink.length < 64 → s.heard.uplink = s.uplink ++ [.stationState r] ∧ s.heard.drops = s.drops) ∧
        (64 ≤ s.uplink.length → s.heard.uplink = s.uplink ∧ s.heard.drops = min 255 (s.drops + 1))) ∧
      ∀ d, s.heard.ctx d =
        if s.polled d = true ∧ (s.desc d).mode = .close then { s.ctx d with unsent := true } else s.ctx d)

/-- A body that fits: the fixed-length kinds by the lengths of 10.7, a VERDICT with a decision code of 0 or 1, a STATION_RESET
with a scope code of 1 or 2, a HEAD_PASS with a body that is not empty. A frame that does not fit keeps its acceptance and is
then counted bad and handed to no owner, whatever its kind (a STATION_RESET too: log entry 29). -/
def Obligations.UnfitFrameIsOnlyCounted : Prop :=
  (∀ (k : DownKind) (body : List Byte), fits k body = true ↔
    match k with
    | .verdict => body.length = 11 ∧ (byteAt body 7 = 0 ∨ byteAt body 7 = 1)
    | .credit => body.length = 5
    | .closeRide => body.length = 4
    | .loadOpen => body.length = 4
    | .loadSeal => body.length = 6
    | .loadAbort => body.length = 0
    | .epochMark => body.length = 2
    | .dockOrder => body.length = 2
    | .query => body.length = 5
    | .stationReset => body.length = 1 ∧ (byteAt body 0 = 1 ∨ byteAt body 0 = 2)
    | .headPass => body ≠ []
    | .loadRows => True
    | .riderBatch => True
    | .blockBatch => True) ∧
  ∀ (i : Instr) (k : DownKind) (code : Half) (body : List Byte) (s : State),
    frameOf i = some (k, code, body) → Listening s code → body.length ≤ 1024 → fits k body = false →
    exec i s = .next { s.heard with badFrames := min 65535 (s.badFrames + 1) }

/-- A complete frame received from HUNT is judged by its CRC, then its station code, then its kind: the first that fails counts
it bad, foreign, bad, and changes nothing else; a frame that passes all three is accepted, whatever command brought it. A code
matches when its low 12 bits are the strapped code or 4,095, and not 0. -/
def Obligations.CompleteFrameIsJudged : Prop :=
  (∀ (s : State) (code : Half), s.codeMatches code = true ↔
    code.extractLsb' 0 12 ≠ (0 : BitVec 12) ∧
      (code.extractLsb' 0 12 = s.stationCode ∨ code.extractLsb' 0 12 = (4095 : BitVec 12))) ∧
  ∀ (code : Half) (kind : Byte) (body : List Byte) (crc : Half) (s : State),
    s.resetnLow = false → s.deframer = .initial → body.length ≤ 1024 →
    (crc16 (frameCore code kind body) ≠ crc →
      exec (.badFrame code kind body crc) s = .next { s with badFrames := min 65535 (s.badFrames + 1) }) ∧
    (s.codeMatches code = false →
      exec (.foreignFrame code kind body) s = .next { s with foreignFrames := min 65535 (s.foreignFrames + 1) }) ∧
    (s.codeMatches code = true → downKindOf kind = none →
      exec (.badFrame code kind body (crc16 (frameCore code kind body))) s =
        .next { s with badFrames := min 65535 (s.badFrames + 1) }) ∧
    (∀ k, s.codeMatches code = true → downKindOf kind = some k →
      exec (.badFrame code kind body (crc16 (frameCore code kind body))) s = receive k code body s ∧
      exec (.foreignFrame code kind body) s = receive k code body s)

/-- A body length above 1,024 discards the frame at once and counts it bad, and the deframer is back in HUNT; a length of 0 to
1,024 takes it on to the station code. A frame in assembly is abandoned, and counted bad, by a gap or by a character with a
framing error, wherever in the frame it falls; in HUNT neither changes anything, and no byte but A5h leaves HUNT. -/
def Obligations.DiscardedAndAbandonedFrames : Prop :=
  (∀ (n : Half) (s : State), s.resetnLow = false → s.deframer = .initial →
     (1024 < n.toNat →
       exec (.lengthOversize n) s = .next { s with badFrames := min 65535 (s.badFrames + 1) }) ∧
     (n.toNat ≤ 1024 →
       exec (.lengthOversize n) s = .next { s with deframer := { stage := .code, len := n.toNat, got := halfBytes n } })) ∧
  ∀ (s : State), s.resetnLow = false → s.deframer = .initial →
    (∀ (code : Half) (kind : Byte) (body : List Byte) (n : Nat), body.length ≤ 1024 → 0 < n → n < body.length + 8 →
      exec (.frameGapTimeout ((frameBytes code kind body).take n)) s =
        .next { s with badFrames := min 65535 (s.badFrames + 1) } ∧
      exec (.framingError ((frameBytes code kind body).take n)) s =
        .next { s with badFrames := min 65535 (s.badFrames + 1) }) ∧
    ∀ chars : List Byte, (∀ b ∈ chars, b ≠ 0xA5) →
      exec (.frameGapTimeout chars) s = .next s ∧ exec (.framingError chars) s = .next s

/-! ## Verdicts, credits, closed rides -/

/-- A VERDICT that matches a REFERRED record. A grant: the allowance value replaces the entry's allowance, the record moves to
OPENING with source CENTRAL, uncharged and counted when the rider has an entry, whose bikes-out rises and whose last-use is the
current epoch; the dock moves to OPENING with an UNLATCH and GREEN. A denial: the allowance value too, the record removed with
no report, the dock to HOLDING with RED BACKEND_DENY and the reason, then the drop-pending test. A VERDICT that matches no
record is answered LATE_NOTICE and has no further effect. -/
def Obligations.VerdictsGrantDenyOrComeLate : Prop :=
  (∀ (code : Half) (reason flags allowance : Byte) (r : Record) (k : Key) (s : State),
     Listening s code → ReleasesSound s → r ∈ s.records → r.rider = some k → r.state = .referred →
     ∃ h : State, h = (if flags.getLsbD 0 then s.heard.modRider k fun e => { e with allowance := min 63 allowance.toNat }
                       else s.heard) ∧
     exec (.verdict code (verdictBody r.number (natByte r.dock.val) k true reason flags allowance)) s =
       .next (((h.modRecord r.number fun r => { r with
           state := .opening, source := some .central, charged := false, counted := (s.lookup k).isSome,
           timer := .none }).modRider k fun e => { e with
             bikesOut := min 15 (e.bikesOut + 1), lastUse := if s.epochValid then s.epoch else 0 }).modCtx r.dock fun c =>
               { c with state := .opening, record := some r.number, order := some .unlatch, serial := c.serial + 1, tries := 0,
                        indicator := .green, unsent := true }) ∧
     exec (.verdict code (verdictBody r.number (natByte r.dock.val) k false reason flags allowance)) s =
       .next (((h.eraseRecord r.number).modCtx r.dock fun c =>
         { c with state := .holding, record := none, indicator := .red .backendDeny reason, unsent := true }).dropTest
           (some k))) ∧
  ∀ (code n : Half) (d : Byte) (k : Key) (grant : Bool) (reason flags allowance : Byte) (s : State),
    Listening s code →
    (∀ r ∈ s.records, ¬(r.number = n ∧ r.dock.val = d.toNat ∧ r.rider = some k ∧ r.state = .referred)) →
    exec (.verdict code (verdictBody n d k grant reason flags allowance)) s =
      .next (s.heard.offer (.lateNotice n d k grant reason (flags.getLsbD 0)))

/-- A CREDIT adds its amount to the rider's allowance, saturating at 63, and changes nothing else; for an absent key, or key 0,
nothing. A CLOSE_RIDE lowers bikes-out by 1 when it is above 0, raises the close-mismatch count when it is 0, and changes
nothing for an absent key. -/
def Obligations.CreditAndCloseRide : Prop :=
  (∀ (code : Half) (k : Key) (amount : Byte) (s : State), Listening s code → ∃ t : State,
     exec (.credit code (wordBytes k ++ [amount])) s = .next t ∧ t = { s.heard with riders := t.riders } ∧
     ∀ k', t.lookup k' =
       if k' = k then (s.lookup k).map fun e => { e with allowance := min 63 (e.allowance + amount.toNat) }
       else s.lookup k') ∧
  ∀ (code : Half) (k : Key) (s : State), Listening s code → ∃ t : State,
    exec (.closeRide code (wordBytes k)) s = .next t ∧
    (s.lookup k = none → t = s.heard) ∧
    (∀ e, s.lookup k = some e → e.bikesOut = 0 →
      t = { s.heard with closeMismatch := min 255 (s.closeMismatch + 1) }) ∧
    (∀ e, s.lookup k = some e → 0 < e.bikesOut → t = { s.heard with riders := t.riders } ∧
      ∀ k', t.lookup k' = if k' = k then some { e with bikesOut := e.bikesOut - 1 } else s.lookup k')

/-! ## Window loads -/

/-- LOAD_OPEN is answered LOADER_BUSY unless the loader is IDLE; BAD_WINDOW for an unknown table or a window outside it; else
the load opens and the reply is OPENED. LOAD_ABORT empties an open or waiting load, answered ABORTED; in IDLE it is answered
NOT_OPEN. (LOADER_BUSY and ABORTED about a waiting load carry completed count 0: log entry 42.) -/
def Obligations.LoadOpensAndAborts : Prop :=
  ∀ (code : Half) (table first last flags : Byte) (s : State), Listening s code → LoadsSound s →
    (s.loader.state ≠ .idle →
      exec (.loadOpen code [table, first, last, flags]) s = .next (s.heard.offer (heldReply s .loaderBusy 0)) ∧
      exec (.loadAbort code []) s =
        .next ({ s.heard with loader := { s.loader with
          state := .idle, table := none, window := none, buffer := [], staging := [] } }.offer (heldReply s .aborted 0))) ∧
    (s.loader.state = .idle →
      exec (.loadAbort code []) s = .next (s.heard.offer (.loadReply none .notOpen 0)) ∧
      ((¬∃ t, tableOf table = some t ∧ first.toNat ≤ last.toNat ∧ last.toNat < tableRows t) →
        exec (.loadOpen code [table, first, last, flags]) s = .next (s.heard.offer (.loadReply none .badWindow 0))) ∧
      ∀ t, tableOf table = some t → first.toNat ≤ last.toNat → last.toNat < tableRows t →
        exec (.loadOpen code [table, first, last, flags]) s =
          .next ({ s.heard with loader :=
            { state := .opened, table := some t, window := some (first.toNat, last.toNat), defer := flags.getLsbD 0,
              rowCounter := first.toNat, buffer := [], sealSum := 0, completed := 0, short := false,
              staging := [] } }.offer (.loadReply (some (t, first.toNat, last.toNat)) .opened 0)))

/-- LOAD_ROWS: NOT_OPEN unless a load is open (completed count 0, for a waiting load too: log entry 42); BAD_ROWS for a body
that is not exactly a list of items written out, word runs of 1 to 255 words (type 1) and skips of 0 to 255 (type 2): an item
of another type, too few words, a run of count 0, a byte left over; else the items are taken in order and nothing is answered.
Each word of a run is added to the seal sum and joins the buffer; when the buffer holds a row, the row is staged at the row
counter in place of any staged copy, the completed count rises and the counter goes to the next row of the window, from the
last to the first. A skip of `n` rows, `n` above 0 (0: log entry 20), advances the row counter within the window, stages
nothing and leaves seal sum and completed count; with words in the buffer it discards them and sets the short mark. -/
def Obligations.LoadRowsStageWholeRows : Prop :=
  (∀ written : List RowItem → List Byte → Prop,
    (∀ items bytes, written items bytes ↔
      (∀ x ∈ items, (∃ ws, x = .run ws ∧ 1 ≤ ws.length ∧ ws.length ≤ 255) ∨ ∃ n, x = .skip n ∧ n ≤ 255) ∧
      bytes = items.flatMap (fun x => match x with
        | .run ws => [1, natByte ws.length] ++ ws.flatMap wordBytes
        | .skip n => [2, natByte n])) →
    ∀ (code : Half) (body : List Byte) (s : State), Listening s code → body.length ≤ 1024 →
      (s.loader.state ≠ .opened → exec (.loadRows code body) s = .next (s.heard.offer (heldReply s .notOpen 0))) ∧
      (s.loader.state = .opened → (∀ items, ¬written items body) →
        exec (.loadRows code body) s = .next (s.heard.offer (heldReply s .badRows 0))) ∧
      ∀ items, s.loader.state = .opened → written items body →
        exec (.loadRows code body) s = .next { s.heard with loader := items.foldl Loader.takeItem s.loader }) ∧
  (∀ (l : Loader) (w : Word) (ws : List Word),
    l.takeItem (.run (w :: ws)) = (l.takeItem (.run [w])).takeItem (.run ws)) ∧
  (∀ (l : Loader) (t : TableId) (first last : Nat) (w : Word), l.table = some t → l.window = some (first, last) →
    first ≤ l.rowCounter → l.rowCounter ≤ last →
    (l.buffer.length + 1 < wordsPerRow t →
      l.takeItem (.run [w]) = { l with sealSum := addEndAround l.sealSum w, buffer := l.buffer ++ [w] }) ∧
    (wordsPerRow t ≤ l.buffer.length + 1 →
      l.takeItem (.run [w]) =
        { l with sealSum := addEndAround l.sealSum w, buffer := [],
                 staging := stageRow l.rowCounter (l.buffer ++ [w]) l.staging, completed := min 65535 (l.completed + 1),
                 rowCounter := if l.rowCounter = last then first else l.rowCounter + 1 })) ∧
  (∀ (l : Loader) (first last n : Nat), l.window = some (first, last) → first ≤ l.rowCounter → l.rowCounter ≤ last → 0 < n →
    l.takeItem (.skip n) =
      { l with rowCounter := first + (l.rowCounter - first + n) % (last - first + 1), buffer := [],
               short := if l.buffer = [] then l.short else true }) ∧
  ∀ (row : Nat) (ws : List Word) (st : List (Nat × List Word)), (st.map Prod.fst).Pairwise (· < ·) →
    ((stageRow row ws st).map Prod.fst).Pairwise (· < ·) ∧
    ∀ r, stagedRow (stageRow row ws st) r = if r = row then some ws else stagedRow st r

/-- LOAD_SEAL of an open load: a partial row is discarded with the short mark; a sum or count that differs is answered
SUM_MISMATCH; then the first commit check that fails names the outcome; with the checks passed the load is committed, or waits
for the epoch when its defer flag is set. Without an open load it is answered NOT_OPEN (completed count 0, for a waiting load
too: log entry 42). The LOAD_REPLY goes after the frames that the commit queues (log entry 18). -/
def Obligations.LoadSealCommitsOrFails : Prop :=
  ∀ (code : Half) (sum : Word) (count : Half) (s : State), Listening s code →
    (s.loader.state ≠ .opened →
      exec (.loadSeal code (wordBytes sum ++ halfBytes count)) s = .next (s.heard.offer (heldReply s .notOpen 0))) ∧
    (s.loader.state = .opened →
      ∀ l : Loader, l = { s.loader with buffer := [], short := if s.loader.buffer = [] then s.loader.short else true } →
      ∀ reply : LoadOutcome → Uplink, reply = (fun o => .loadReply l.held o l.completed) →
      ∀ empty : Loader, empty = { l with state := .idle, table := none, window := none, staging := [] } →
      (sum ≠ l.sealSum ∨ count.toNat ≠ l.completed →
        exec (.loadSeal code (wordBytes sum ++ halfBytes count)) s =
          .next ({ s.heard with loader := empty }.offer (reply .sumMismatch))) ∧
      (sum = l.sealSum → count.toNat = l.completed →
        (∀ o, s.heard.checkLoad l = some o →
          exec (.loadSeal code (wordBytes sum ++ halfBytes count)) s =
            .next ({ s.heard with loader := empty }.offer (reply o))) ∧
        (s.heard.checkLoad l = none → l.defer = true →
          exec (.loadSeal code (wordBytes sum ++ halfBytes count)) s =
            .next ({ s.heard with loader := { l with state := .waitingEpoch } }.offer (reply .deferred))) ∧
        (s.heard.checkLoad l = none → l.defer = false →
          exec (.loadSeal code (wordBytes sum ++ halfBytes count)) s =
            .next ({ s.heard.commitRows l with loader := empty }.offer
              (reply (if l.short then .committedShort else .committed))))))

/-- The commit checks on the rows as they would stand, and the first that fails names the outcome: RANGE (PARAM loads) when the
ranges in use are not in order and apart, then ALIAS_CLASH when two polled docks of one string share an alias, then DOCK_IN_USE
when a dock that a record names does not keep its kind, alias and string; with none failing the load passes. CLASS and KEY
loads have no checks. -/
def Obligations.CommitChecksPassExactlyWhen : Prop :=
  (∀ p : Params, rangesGood p = true ↔
    (p.rangeA.first = 255 ∨ (p.rangeA.first.toNat ≤ p.rangeA.last.toNat ∧ p.rangeA.last.toNat ≤ 47)) ∧
    (p.rangeB.first = 255 ∨ (p.rangeB.first.toNat ≤ p.rangeB.last.toNat ∧ p.rangeB.last.toNat ≤ 47)) ∧
    (p.rangeA.first = 255 ∨ p.rangeB.first = 255 ∨ p.rangeA.last.toNat < p.rangeB.first.toNat)) ∧
  ∀ (s : State) (l : Loader),
    (l.table = some .cls ∨ l.table = some .key → s.checkLoad l = none) ∧
    (l.table = some .dock → s.newParams l = s.params ∧ ∀ d, (s.newDescs l).get d =
      match stagedRow l.staging d.val with | some ws => readDockRow ws | none => s.desc d) ∧
    (l.table = some .param → s.newDescs l = s.descs ∧ s.newParams l = (s.commitRows l).params) ∧
    ∀ (descs : Vector DockDesc 48) (p : Params), descs = s.newDescs l → p = s.newParams l →
      l.table = some .dock ∨ l.table = some .param →
    ∀ ranges aliases named : Prop,
      (ranges ↔ (l.table = some .param → rangesGood p = true)) →
      (aliases ↔ ∀ d e : DockNo, d ≠ e → polledOn (descs.get d) p d = true → polledOn (descs.get e) p e = true →
        stringOf p d = stringOf p e → (descs.get d).aliasNo ≠ (descs.get e).aliasNo) →
      (named ↔ ∀ r ∈ s.records, (descs.get r.dock).kind = (s.desc r.dock).kind ∧
        (descs.get r.dock).aliasNo = (s.desc r.dock).aliasNo ∧ stringOf p r.dock = stringOf s.params r.dock) →
      (¬ranges → s.checkLoad l = some .range) ∧
      (ranges → ¬aliases → s.checkLoad l = some .aliasClash) ∧
      (ranges → aliases → ¬named → s.checkLoad l = some .dockInUse) ∧
      (ranges → aliases → named → s.checkLoad l = none)

/-- A commit of DOCK or PARAM rows replaces the staged rows, as they are read, and moves the contexts: to UNPOLLED, to UNSEEN
when a dock becomes polled or its alias or string changes, or not at all. A dock that is not moved keeps its whole context, but
for the unsent mark at a change of its islanded mode on an islanded station (set even when DARK stays shown: log entry 27).
Nothing else changes but at the String Masters and the Uplink Queue: no record, rider entry, Block List entry, epoch or running
timer. -/
def Obligations.DockCommitMovesTheDocks : Prop :=
  ∀ (l : Loader) (s : State), l.table = some .dock ∨ l.table = some .param →
    ∀ t : State, t = s.commitRows l →
    (l.table = some .dock → t.params = s.params ∧
      ∀ d, t.desc d = match stagedRow l.staging d.val with | some ws => readDockRow ws | none => s.desc d) ∧
    (l.table = some .param → t.descs = s.descs ∧ t.params = s.newParams l) ∧
    t = { s with descs := t.descs, params := t.params, ctxs := t.ctxs, stringA := t.stringA, stringB := t.stringB,
                 uplink := t.uplink, drops := t.drops } ∧
    ∀ d, ∀ moved : DockState → DockContext, moved = (fun st => { s.ctx d with
        state := st, record := none, order := none, tries := 0, indicator := .dark, unsent := true,
        bikePresent := .unknown, latch := .unknown, bikeId := none, owed := none, missCount := 0 }) →
      (s.polled d = true → t.polled d = false → t.ctx d = moved .unpolled) ∧
      (t.polled d = true →
        s.polled d = false ∨ (s.desc d).aliasNo ≠ (t.desc d).aliasNo ∨ stringOf s.params d ≠ stringOf t.params d →
        t.ctx d = moved .unseen) ∧
      (s.polled d = t.polled d →
        (s.polled d = true → (s.desc d).aliasNo = (t.desc d).aliasNo ∧ stringOf s.params d = stringOf t.params d) →
        t.ctx d = if t.polled d = true ∧ s.condition = .islanded ∧ (s.desc d).mode ≠ (t.desc d).mode
                  then { s.ctx d with unsent := true } else s.ctx d)

/-- How a commit reads staged rows: a DOCK row of four named bytes and two masks, with the codes and values outside the named
ones (any other kind EMPTY, an alias above 31 as 0, a level above 3 as 3, any mode but 1 MASK); a CLASS row, its limit at most
15; a KEY row; PARAM times clamped to their ranges and string ranges as carried. A commit of CLASS rows replaces the staged
rows and nothing else, a commit of KEY rows too; a commit of PARAM rows replaces the staged rows and keeps the others. -/
def Obligations.RowsReadAndCommitted : Prop :=
  (∀ (kind aliasNo level mode locals islanded x y : Byte) (row : DockDesc),
    row = readDockRow [(kind ++ aliasNo) ++ (level ++ mode), (locals ++ islanded) ++ (x ++ y)] →
    row.kind = (if kind = 1 then .standard else if kind = 2 then .ebike else .empty) ∧
    row.aliasNo = (if 31 < aliasNo.toNat then 0 else aliasNo) ∧ row.minLevel.val = min 3 level.toNat ∧
    (∀ c : Fin 4, row.localMask.getLsbD c.val = locals.getLsbD c.val ∧
      row.islandedMask.getLsbD c.val = islanded.getLsbD c.val) ∧
    row.mode = if mode = 1 then .close else .mask) ∧
  (∀ limit ebike charge x : Byte, readClassRow [(limit ++ ebike) ++ (charge ++ x)] =
    { limit := min 15 limit.toNat, ebike := decide (ebike ≠ 0), charge := decide (charge ≠ 0) }) ∧
  (∀ v a b c d e : Word, readKeyRow [v, a, b, c, d, e] =
    { valid := decide (v ≠ 0), k0 := a, k1 := b, k2 := c, k3 := d, k4 := e }) ∧
  ∀ (l : Loader) (s t : State), t = s.commitRows l →
    (l.table = some .cls → t = { s with classes := t.classes } ∧ ∀ c, t.classRow c =
      match stagedRow l.staging c.val with | some ws => readClassRow ws | none => s.classRow c) ∧
    (l.table = some .key → t = { s with keys := t.keys } ∧ ∀ k, t.keyRow k =
      match stagedRow l.staging k.val with | some ws => readKeyRow ws | none => s.keyRow k) ∧
    (l.table = some .param → (l.staging.map Prod.fst).Pairwise (· < ·) →
      ∀ word : Nat → Option Word, (∀ j, word j = (stagedRow l.staging j).map fun ws => ws.getD 0 0) →
      ∀ time : Nat → Nat → Nat → Nat → Nat,
        (∀ j lo hi old, time j lo hi old = match word j with | some w => max lo (min hi w.toNat) | none => old) →
      ∀ range : Nat → StringRange → StringRange,
        (∀ j old, range j old = match word j with
          | some w => { first := w.extractLsb' 24 8, last := w.extractLsb' 16 8 }
          | none => old) →
      t.params = { presenceTimeout := time 0 5 120 s.params.presenceTimeout
                   referralTimeout := time 1 1 15 s.params.referralTimeout
                   liftTimeout := time 2 5 60 s.params.liftTimeout
                   epochLength := time 3 60 3600 s.params.epochLength
                   rangeA := range 4 s.params.rangeA
                   rangeB := range 5 s.params.rangeB })

/-- A commit of DOCK or PARAM rows at the String Masters. An IDLE one that gains a member enters CLEARING, position absent,
count 0; else line state, position and cycle count are kept. The reply of an exchange in flight is to be discarded when the
commit changes its dock's polled condition, alias or string (a mark of the model's own: log entry 32). A waiting pass whose
dock is no member of the string any more leaves the slot with HEAD_REPLY NO_DOCK, that of string A first (log entry 18); any
other pass stays, one in flight to a dock taken away too (log entry 37). -/
def Obligations.CommitAtTheStringMasters : Prop :=
  ∀ (l : Loader) (s : State), l.table = some .dock ∨ l.table = some .param →
    ∀ t : State, t = s.commitRows l →
    ∀ changed : DockNo → Prop, (∀ d, changed d ↔ s.polled d ≠ t.polled d ∨ (s.desc d).aliasNo ≠ (t.desc d).aliasNo ∨
      stringOf s.params d ≠ stringOf t.params d) →
    ∀ lost : StringId → HeadPass → Prop, (∀ m p, lost m p ↔
      (s.str m).headPass = some p ∧ (∀ e, (s.str m).exchange = some e → e.kind = .ordinary) ∧
      ¬(t.polled p.dock = true ∧ stringOf t.params p.dock = some m)) →
    (∀ m,
      ((s.str m).line = .idle → t.members m ≠ [] →
        (t.str m).line = .clearing ∧ (t.str m).cycle = 0 ∧ (t.str m).position = none) ∧
      ((s.str m).line ≠ .idle ∨ t.members m = [] →
        (t.str m).line = (s.str m).line ∧ (t.str m).cycle = (s.str m).cycle ∧ (t.str m).position = (s.str m).position) ∧
      ((s.str m).exchange = none → (t.str m).exchange = none) ∧
      (∀ e, (s.str m).exchange = some e →
        (changed e.dock → (t.str m).exchange = some { e with discarded := true }) ∧
        (¬changed e.dock → (t.str m).exchange = some e)) ∧
      (∀ p, lost m p → (t.str m).headPass = none) ∧
      ((∀ p, ¬lost m p) → (t.str m).headPass = (s.str m).headPass) ∧
      t.str m = { s.str m with line := (t.str m).line, cycle := (t.str m).cycle, position := (t.str m).position,
                               exchange := (t.str m).exchange, headPass := (t.str m).headPass }) ∧
    ∀ told : StringId → List Uplink,
      (∀ m, (∀ p, lost m p → told m = [.headReply (natByte p.dock.val) .noDock []]) ∧
        ((∀ p, ¬lost m p) → told m = [])) →
      t.uplink = ((told .a ++ told .b).foldl State.offer s).uplink ∧
      t.drops = ((told .a ++ told .b).foldl State.offer s).drops

/-! ## Batches -/

/-- A RIDER_BATCH or BLOCK_BATCH: BATCH_BUSY while the slot holds a batch; BAD_BATCH for a body that does not hold whole
records or holds more than 32; a batch of no records is answered at once; else it enters the slot. After one of its records:
applied, the slot moves to the next record with the applied count raised, or after the last is emptied with stop reason NONE; a
record of key 0 stops the batch with BAD_KEY, else a record whose kind does not belong to the batch with BAD_RECORD (the order
of those two: log entry 19; which command takes a record of no kind: log entry 26). That a malformed body is answered BATCH_BUSY,
not BAD_BATCH, while the slot holds a batch is log entry 44. -/
def Obligations.BatchEntersTheSlot : Prop :=
  (∀ (code : Half) (body : List Byte) (s : State), Listening s code → body.length ≤ 1024 →
    ∀ (kind : BatchKind) (i : Instr), (kind = .rider ∧ i = .riderBatch code body) ∨ (kind = .block ∧ i = .blockBatch code body) →
    ∀ n : Half, n = (if body.length < 2 then 0 else halfAt body 0) →
    (s.batch ≠ none → exec i s = .next (s.heard.offer (.batchReply kind n 0 .batchBusy 0))) ∧
    (s.batch = none →
      (body.length < 3 ∨ 32 < (byteAt body 2).toNat ∨ body.length ≠ 3 + 8 * (byteAt body 2).toNat →
        exec i s = .next (s.heard.offer (.batchReply kind n 0 .badBatch 0))) ∧
      (body.length = 3 → byteAt body 2 = 0 → exec i s = .next (s.heard.offer (.batchReply kind n 0 .none 0))) ∧
      (3 < body.length → (byteAt body 2).toNat ≤ 32 → body.length = 3 + 8 * (byteAt body 2).toNat →
        ∃ rs : List BatchRecord, rs.length = (byteAt body 2).toNat ∧
          (∀ j (r : BatchRecord), rs[j]? = some r →
            r = { kind := byteAt body (3 + 8 * j), key := wordAt body (4 + 8 * j), b5 := byteAt body (8 + 8 * j),
                  b6 := byteAt body (9 + 8 * j), b7 := byteAt body (10 + 8 * j) }) ∧
          exec i s = .next { s.heard with
            batch := some { kind := kind, number := n, records := rs, next := 0, applied := 0 } }))) ∧
  (∀ (s : State) (b : Batch),
    (b.next + 1 < b.records.length →
      s.advanceBatch b = { s with batch := some { b with next := b.next + 1, applied := b.applied + 1 } }) ∧
    (b.records.length ≤ b.next + 1 → s.advanceBatch b = batchEnds s b (b.applied + 1) .none 0)) ∧
  ∀ (i : Instr) (s : State) (b : Batch) (r : BatchRecord), NextRecord s b r → TakesRecord i r.kind →
    (r.key = 0 → exec i s = .next (batchEnds s b b.applied .badKey 0)) ∧
    (r.key ≠ 0 → ¬Belongs b.kind r.kind → exec i s = .next (batchEnds s b b.applied .badRecord r.key))

/-- A PUT of a key that is not 0. A present entry takes its class, clamped to 3, its allowance, clamped to 63, and its two
flags, and is neither provisional nor drop-pending; window, bikes-out and last-use are kept. An absent key is inserted with an
empty window, no bicycle and the current epoch; where the insert fails the batch stops with BUCKET_FULL. A DROP of a key that
is not 0: an absent key changes nothing, an entry that no record names is removed whatever its flags, a named entry has its
drop-pending flag set and is kept. -/
def Obligations.PutAndDropAtTheRiderTable : Prop :=
  (∀ (s : State) (b : Batch) (r : BatchRecord), NextRecord s b r → b.kind = .rider → r.kind = 1 → r.key ≠ 0 →
    ∀ cls : Fin 4, cls.val = min 3 r.b5.toNat →
    (∀ e, s.lookup r.key = some e → ∃ t : State, exec .put s = .next (t.advanceBatch b) ∧ t = { s with riders := t.riders } ∧
      ∀ k, t.lookup k = if k = r.key then some
        { e with cls := cls, allowance := min 63 r.b6.toNat, review := r.b7.getLsbD 0, pinned := r.b7.getLsbD 1,
                 provisional := false, dropPending := false } else s.lookup k) ∧
    (s.lookup r.key = none → ∀ e : RiderEntry,
      e = { key := r.key, cls := cls, allowance := min 63 r.b6.toNat, bikesOut := 0, review := r.b7.getLsbD 0,
            pinned := r.b7.getLsbD 1, provisional := false, dropPending := false, top := none, used := [],
            lastUse := nowOf s } →
      (∀ t, s.insertRider e = some t → exec .put s = .next (t.advanceBatch b)) ∧
      (s.insertRider e = none → exec .put s = .next (batchEnds s b b.applied .bucketFull r.key)))) ∧
  ∀ (s : State) (b : Batch) (r : BatchRecord), NextRecord s b r → b.kind = .rider → r.kind = 2 → r.key ≠ 0 →
    RiderTableSound s → ∃ t : State, exec .drop s = .next (t.advanceBatch b) ∧ t = { s with riders := t.riders } ∧
    (∀ k, k ≠ r.key → t.lookup k = s.lookup k) ∧
    ((∀ x ∈ s.records, x.rider ≠ some r.key) → t.lookup r.key = none) ∧
    ((∃ x ∈ s.records, x.rider = some r.key) →
      t.lookup r.key = (s.lookup r.key).map fun e => { e with dropPending := true })

/-- An insert takes the lowest empty way of the key's bucket; in a full bucket it takes the place of an evictable entry, not
pinned, not named, without bicycles: a provisional one if there is any, then of the greatest epoch age, then in the lowest way;
with none evictable it fails. The bucket is the low ten bits of the key folded on itself by 10 and by 20. -/
def Obligations.InsertTakesEmptyOrEvictedWay : Prop :=
  (∀ k : Key, (bucketOf k).val = (k ^^^ (k >>> (10 : Nat)) ^^^ (k >>> (20 : Nat))).toNat % 1024) ∧
  ∀ (s : State) (e : RiderEntry) (b : Bucket), e.key ≠ 0 → b = s.bucket (bucketOf e.key) →
    ∀ evictable : RiderEntry → Prop,
      (∀ x, evictable x ↔ x.pinned = false ∧ (∀ r ∈ s.records, r.rider ≠ some x.key) ∧ x.bikesOut = 0) →
    ∀ age : RiderEntry → Nat, (∀ x, age x = (nowOf s - x.lastUse).toNat) →
    (∀ w, b.get w = none → (∀ v < w, b.get v ≠ none) → s.insertRider e = some (s.setWay (bucketOf e.key) w (some e))) ∧
    ((∀ w, ∃ x, b.get w = some x ∧ ¬evictable x) → s.insertRider e = none) ∧
    ∀ w x, (∀ v, b.get v ≠ none) → b.get w = some x → evictable x →
      (∀ v y, b.get v = some y → evictable y →
        (y.provisional = true → x.provisional = true) ∧
        (y.provisional = x.provisional → age y < age x ∨ (age y = age x ∧ w ≤ v))) →
      s.insertRider e = some (s.setWay (bucketOf e.key) w (some e))

/-- An ADD of a key that is not 0 lists it with its expiry, in key order, in place of an entry of that key; with 512 keys listed
and this one not among them the batch stops with LIST_FULL. A REMOVE takes the key's entry out and keeps the rest in order. -/
def Obligations.AddAndRemoveKeepTheBlockList : Prop :=
  ∀ (s : State) (b : Batch) (r : BatchRecord), NextRecord s b r → b.kind = .block → r.key ≠ 0 →
    (r.kind = 3 →
      (512 ≤ s.blocks.length → (∀ e ∈ s.blocks, e.key ≠ r.key) →
        exec .add s = .next (batchEnds s b b.applied .listFull r.key)) ∧
      (s.blocks.length < 512 ∨ (∃ e ∈ s.blocks, e.key = r.key) → BlockListOrdered s → ∃ t : State,
        exec .add s = .next (t.advanceBatch b) ∧ t = { s with blocks := t.blocks } ∧ BlockListOrdered t ∧
        ∀ e, e ∈ t.blocks ↔ e = { key := r.key, expiry := joinHalf r.b5 r.b6 } ∨ (e ∈ s.blocks ∧ e.key ≠ r.key))) ∧
    (r.kind = 4 →
      exec .remove s = .next ({ s with blocks := s.blocks.filter fun e => e.key != r.key }.advanceBatch b))

/-! ## The clock -/

/-- A tick lowers every running timer by 1 and, while ISLANDED, raises the islanded time, held at 655,350 (a timer that has
reached 0 stands there until its expiry is taken: log entry 6). -/
def Obligations.TickLowersTheTimers : Prop :=
  ∀ s : State, s.resetnLow = false → exec .tick s = .next { s with
    presence := s.presence.map fun n => n - 1
    epochTimer := s.epochTimer.map fun n => n - 1
    records := s.records.map fun r => { r with timer := match r.timer with
      | .none => .none
      | .referral n => .referral (n - 1)
      | .lift n => .lift (n - 1) }
    islandedTime := if s.condition = .islanded then min 655350 (s.islandedTime + 1) else s.islandedTime }

/-- An EPOCH_MARK of value v: a first mark and a mark 1 to 32,767 ahead are a change of epoch to v, an equal mark restarts the
local epoch timer alone, a mark 32,768 or more ahead is held and counted behind. The local timer's expiry is a change of epoch
to E + 1. -/
def Obligations.EpochMarksAndLocalAdvance : Prop :=
  (∀ (code v : Half) (s : State), Listening s code →
    (s.epochValid = false → exec (.epochMark code (halfBytes v)) s = .next (epochChanged s.heard v)) ∧
    (s.epochValid = true →
      (v = s.epoch → exec (.epochMark code (halfBytes v)) s =
        .next { s.heard with epochTimer := some (s.params.epochLength * 10) }) ∧
      (1 ≤ (v - s.epoch).toNat → (v - s.epoch).toNat ≤ 32767 →
        exec (.epochMark code (halfBytes v)) s = .next (epochChanged s.heard v)) ∧
      (32768 ≤ (v - s.epoch).toNat → exec (.epochMark code (halfBytes v)) s =
        .next { s.heard with behindMarks := min 255 (s.behindMarks + 1) }))) ∧
  ∀ s : State, s.resetnLow = false → s.epochValid = true → s.epochTimer = some 0 →
    exec .localEpochTimerExpiry s = .next (epochChanged s (s.epoch + 1))

/-- A change of epoch purges the Block List of every entry whose expiry lies at or before the new epoch and keeps the others in
order; a waiting load is checked again and committed, or ends with the failing check; an open load or an empty loader stays. The
LOAD_REPLY goes after the frames that the commit queues (log entry 18). -/
def Obligations.ChangeOfEpoch : Prop :=
  ∀ (s : State) (e : Half), ∀ p : State,
    p = { s with epochValid := true, epoch := e, epochTimer := some (s.params.epochLength * 10),
                 blocks := s.blocks.filter fun b => decide (32768 ≤ (e - b.expiry).toNat) } →
    ∀ idle : Loader, idle = { s.loader with state := .idle, table := none, window := none, buffer := [], staging := [] } →
    (s.loader.state ≠ .waitingEpoch → epochChanged s e = p) ∧
    (s.loader.state = .waitingEpoch →
      (∀ o, p.checkLoad s.loader = some o →
        epochChanged s e = { p with loader := idle }.offer (heldReply s o s.loader.completed)) ∧
      (p.checkLoad s.loader = none →
        epochChanged s e = { p.commitRows s.loader with loader := idle }.offer
          (heldReply s (if s.loader.short then .committedShort else .committed) s.loader.completed))) ∧
    (epochChanged s e).blocks.Sublist s.blocks ∧
    ∀ b, b ∈ (epochChanged s e).blocks ↔ b ∈ s.blocks ∧ ¬(e - b.expiry).toNat ≤ 32767

/-! ## Dock orders -/

/-- A DOCK_ORDER is answered BAD_DOCK for a dock number above 47, else BAD_ACTION for an action code outside the four, else
NOT_POLLED at an UNPOLLED dock, and then changes nothing; the action code in the body decides, whichever command carries it:
DOCK_ORDER_BAD_ACTION, DOCK_ORDER_RELEASE, DOCK_ORDER_RELATCH, OUT_OF_SERVICE, IN_SERVICE (log entry 3). That BAD_DOCK goes
before BAD_ACTION is log entry 40. -/
def Obligations.DockOrdersThatAreNotTaken : Prop :=
  ∀ (i : Instr) (code : Half) (d a : Byte) (s : State), frameOf i = some (.dockOrder, code, [d, a]) → Listening s code →
    (47 < d.toNat → exec i s = .next (s.heard.offer (.orderReply d a .badDock .unpolled none))) ∧
    ∀ dock : DockNo, dock.val = d.toNat →
      (a ∉ ([1, 2, 3, 4] : List Byte) →
        exec i s = .next (s.heard.offer (.orderReply d a .badAction (s.ctx dock).state none))) ∧
      (a ∈ ([1, 2, 3, 4] : List Byte) → (s.ctx dock).state = .unpolled →
        exec i s = .next (s.heard.offer (.orderReply d a .notPolled .unpolled none)))

/-- DOCK_ORDER RELEASE (command DOCK_ORDER_RELEASE) at a polled dock: in HOLDING with no relatch owed and fewer than 16
records, a REMOTE record in OPENING with the next free number, the dock to OPENING with an UNLATCH and GREEN, DONE with the
number; REFUSED_STATE in every other state or with relatch owed; NO_ROOM with 16 records. A new record's release number is the
first number from the next-number counter upward, modulo 65,536, that no live record holds, and the counter then stands one
past it. -/
def Obligations.ReleaseOrderAndItsNumber : Prop :=
  (∀ (i : Instr) (code : Half) (d : DockNo) (s : State), frameOf i = some (.dockOrder, code, [natByte d.val, 1]) →
     Listening s code → (s.ctx d).state ≠ .unpolled →
     ((s.ctx d).state ≠ .holding ∨ (s.ctx d).owed ≠ none →
       exec i s = .next (s.heard.offer (.orderReply (natByte d.val) 1 .refusedState (s.ctx d).state none))) ∧
     ((s.ctx d).state = .holding → (s.ctx d).owed = none →
       (16 ≤ s.records.length →
         exec i s = .next (s.heard.offer (.orderReply (natByte d.val) 1 .noRoom .holding none))) ∧
       (s.records.length < 16 → ∀ new : Record,
         new = { number := s.newNumber, dock := d, rider := none, state := .opening, source := some .remote, cond := none,
                 cls := none, seq := none, charged := false, counted := false, bikeId := (s.ctx d).bikeId,
                 timer := .none } →
         exec i s = .next (({ s.heard with nextNumber := s.newNumber + 1, records := s.records ++ [new] }.modCtx d
           (granted s.newNumber)).offer (.orderReply (natByte d.val) 1 .done .opening (some s.newNumber)))))) ∧
  ∀ s : State, s.records.length ≤ 16 →
    (∀ r ∈ s.records, r.number ≠ s.newNumber) ∧
    (∃ j : Nat, j ≤ s.records.length ∧ s.newNumber = s.nextNumber + BitVec.ofNat 16 j ∧
      ∀ i < j, ∃ r ∈ s.records, r.number = s.nextNumber + BitVec.ofNat 16 i) ∧
    ∀ r : Record, (s.addRecord r).records = s.records ++ [r] ∧ (s.addRecord r).nextNumber = r.number + 1

/-- RELATCH (command DOCK_ORDER_RELATCH) and OUT_OF_SERVICE at a dock whose record is OPENING or OPEN: the rider's counts given
back, a RELEASE_REPORT WITHDRAWN with the action, the record gone, a RELATCH set, the dock to HOLDING or CLOSED with DARK, the
drop-pending test, DONE. OUT_OF_SERVICE at a CHECKING dock removes the REFERRED record with no change to an entry; RELATCH
there, and IN_SERVICE at a dock that a record names, are REFUSED_STATE. -/
def Obligations.OrdersThatWithdraw : Prop :=
  ∀ (i : Instr) (code : Half) (r : Record) (s : State), Listening s code → ReleasesSound s → r ∈ s.records →
    (r.state ≠ .referred → frameOf i = some (.dockOrder, code, [natByte r.dock.val, 2]) → exec i s =
      .next ((((((s.heard.refundFor r).offer (reportFor r .withdrawn (.withdrawnBy .relatch))).eraseRecord r.number).modCtx
        r.dock fun c => { c with state := .holding, record := none, order := some .relatch, serial := c.serial + 1,
                                 tries := 0, indicator := .dark, unsent := true }).dropTest r.rider).offer
          (.orderReply (natByte r.dock.val) 2 .done .holding none))) ∧
    (r.state ≠ .referred → frameOf i = some (.dockOrder, code, [natByte r.dock.val, 3]) → exec i s =
      .next ((((((s.heard.refundFor r).offer (reportFor r .withdrawn (.withdrawnBy .outOfService))).eraseRecord
        r.number).modCtx r.dock fun c => { c with state := .closed, record := none, order := some .relatch,
                                                  serial := c.serial + 1, tries := 0, indicator := .dark,
                                                  unsent := true }).dropTest r.rider).offer
          (.orderReply (natByte r.dock.val) 3 .done .closed none))) ∧
    (r.state = .referred → frameOf i = some (.dockOrder, code, [natByte r.dock.val, 3]) → exec i s =
      .next (((((s.heard.offer (reportFor r .withdrawn (.withdrawnBy .outOfService))).eraseRecord r.number).modCtx r.dock
        fun c => { c with state := .closed, record := none, indicator := .dark, unsent := true }).dropTest r.rider).offer
          (.orderReply (natByte r.dock.val) 3 .done .closed none))) ∧
    (r.state = .referred → frameOf i = some (.dockOrder, code, [natByte r.dock.val, 2]) →
      exec i s = .next (s.heard.offer (.orderReply (natByte r.dock.val) 2 .refusedState .checking none))) ∧
    (frameOf i = some (.dockOrder, code, [natByte r.dock.val, 4]) →
      exec i s = .next (s.heard.offer (.orderReply (natByte r.dock.val) 4 .refusedState (s.ctx r.dock).state none)))

/-- DOCK_ORDERs OUT_OF_SERVICE, IN_SERVICE and RELATCH (command DOCK_ORDER_RELATCH) at a dock that no record names.
OUT_OF_SERVICE closes every polled dock, with DARK, its order slot and relatch owed kept. IN_SERVICE takes a CLOSED or FAULTED
dock, by its fields, to ABSENT, UNSEEN, HOLDING (with a RELATCH when the latch is open, the slot empty and nothing owed) or
VACANT, with DARK. RELATCH, and IN_SERVICE elsewhere, are REFUSED_STATE. -/
def Obligations.OrdersAtADockWithoutARecord : Prop :=
  ∀ (i : Instr) (code : Half) (d : DockNo) (s : State), Listening s code → (s.ctx d).state ≠ .unpolled → ¬Held (s.ctx d) →
    ∀ reply : Byte → OrderOutcome → DockState → Uplink, reply = (fun a o st => .orderReply (natByte d.val) a o st none) →
    ∀ h : State, h = s.heard →
    (frameOf i = some (.dockOrder, code, [natByte d.val, 2]) →
      exec i s = .next (h.offer (reply 2 .refusedState (s.ctx d).state))) ∧
    (frameOf i = some (.dockOrder, code, [natByte d.val, 3]) → exec i s =
      .next ((h.modCtx d fun c => { c with state := .closed, record := none, indicator := .dark, unsent := true }).offer
        (reply 3 .done .closed))) ∧
    (frameOf i = some (.dockOrder, code, [natByte d.val, 4]) →
      ((s.ctx d).state ≠ .closed → (s.ctx d).state ≠ .faulted →
        exec i s = .next (h.offer (reply 4 .refusedState (s.ctx d).state))) ∧
      ((s.ctx d).state = .closed ∨ (s.ctx d).state = .faulted →
        ∀ goes : DockState → State, goes = (fun st => h.modCtx d fun c =>
          { c with state := st, record := none, indicator := .dark, unsent := true }) →
        ((s.ctx d).missCount = 8 → exec i s = .next ((goes .absent).offer (reply 4 .done .absent))) ∧
        ((s.ctx d).missCount ≠ 8 →
          ((s.ctx d).bikePresent = .unknown → exec i s = .next ((goes .unseen).offer (reply 4 .done .unseen))) ∧
          ((s.ctx d).bikePresent = .absent → exec i s = .next ((goes .vacant).offer (reply 4 .done .vacant))) ∧
          ((s.ctx d).bikePresent = .present →
            ((s.ctx d).latch = .opened → (s.ctx d).order = none → (s.ctx d).owed = none → exec i s =
              .next ((h.modCtx d fun c => { c with state := .holding, record := none, indicator := .dark, unsent := true,
                                                   order := some .relatch, serial := c.serial + 1, tries := 0 }).offer
                (reply 4 .done .holding))) ∧
            ((s.ctx d).latch ≠ .opened ∨ (s.ctx d).order ≠ none ∨ (s.ctx d).owed ≠ none → exec i s =
              .next ((goes .holding).offer (reply 4 .done .holding)))))))

/-! ## Ends of releases -/

/-- The rider's counts at a removal before the lift: bikes-out falls by 1, held at 0, if the record was counted, allowance
rises by 1, saturating at 63, if it was charged, and nothing else changes. The drop-pending test removes the key's entry when
it is drop-pending and no live record names it, and does nothing otherwise. -/
def Obligations.RefundAndDropTest : Prop :=
  ∀ (s : State) (r : Record),
    (r.rider = none → s.refundFor r = s ∧ s.dropTest r.rider = s) ∧
    ∀ k, r.rider = some k →
      (s.refundFor r = { s with riders := (s.refundFor r).riders } ∧
        ∀ k', (s.refundFor r).lookup k' = if k' = k then (s.lookup k).map fun e =>
          { e with bikesOut := if r.counted then e.bikesOut - 1 else e.bikesOut
                   allowance := if r.charged then min 63 (e.allowance + 1) else e.allowance } else s.lookup k') ∧
      (∀ e, s.lookup k = some e → e.dropPending = true → (∀ x ∈ s.records, x.rider ≠ some k) → RiderTableSound s →
        s.dropTest (some k) = { s with riders := (s.dropTest (some k)).riders } ∧
        ∀ k', (s.dropTest (some k)).lookup k' = if k' = k then none else s.lookup k') ∧
      ((∀ e, s.lookup k = some e → e.dropPending = false) ∨ (∃ x ∈ s.records, x.rider = some k) →
        s.dropTest (some k) = s)

/-- The settlement of a REFERRED record by bit c of its dock's islanded mask, read live. Clear: the record removed,
SETTLED_REFUSED NO_ANSWER, the dock to HOLDING with RED NO_ANSWER, the drop-pending test. Set: a FALLBACK grant, uncharged,
counted when the rider has an entry; for condition 2 and no entry a provisional entry first, and where its insert fails the
refusal with TABLE_FULL. A referral timer at 0 settles its record so. -/
def Obligations.SettlementByTheIslandedMask : Prop :=
  ∀ (s : State) (r : Record) (k : Key) (c cls : Fin 4) (q : Half), r.rider = some k → r.cond = some c → r.cls = some cls →
    r.seq = some q →
    ∀ refused : Reason → State, refused = (fun why =>
      (((s.offer (reportFor r .settledRefused (.refusedWith why))).eraseRecord r.number).modCtx r.dock fun c =>
        { c with state := .holding, record := none, indicator := .red why 0, unsent := true }).dropTest (some k)) →
    ∀ grant : State → Bool → State, grant = (fun t b =>
      ((t.modRecord r.number fun x => { x with state := .opening, source := some .fallback, charged := false, counted := b,
                                               timer := .none }).modRider k fun e =>
        { e with bikesOut := min 15 (e.bikesOut + 1), lastUse := nowOf s }).modCtx r.dock (granted r.number)) →
    ∀ made : Option State, made = s.insertRider
      { key := k, cls := cls, allowance := 0, bikesOut := 0, review := false, pinned := false, provisional := true,
        dropPending := false, top := some q, used := [q], lastUse := nowOf s } →
    ((s.desc r.dock).islandedMask.getLsbD c.val = false → s.settle r = refused .noAnswer) ∧
    ((s.desc r.dock).islandedMask.getLsbD c.val = true →
      (s.lookup k ≠ none → s.settle r = grant s true) ∧
      (s.lookup k = none → c ≠ 2 → s.settle r = grant s false) ∧
      (s.lookup k = none → c = 2 → (∀ t, made = some t → s.settle r = grant t true) ∧
        (made = none → s.settle r = refused .tableFull))) ∧
    (s.resetnLow = false → ReleasesSound s → r ∈ s.records → r.state = .referred → r.timer = .referral 0 →
      exec (.referralTimerExpiry r.number) s = .next (s.settle r))

/-- A lift timer at 0 removes its OPEN record: the rider's counts given back, a RELEASE_REPORT TIMED_OUT, the record gone, the
dock to HOLDING with DARK, a RELATCH set and relatch owed with its three parts, the drop-pending test. -/
def Obligations.LiftTimerExpiry : Prop :=
  ∀ (s : State) (r : Record), s.resetnLow = false → ReleasesSound s → r ∈ s.records → r.state = .opened →
    r.timer = .lift 0 →
    exec (.liftTimerExpiry r.number) s =
      .next (((((s.refundFor r).offer (reportFor r .timedOut .nothing)).eraseRecord r.number).modCtx r.dock fun c =>
        { c with state := .holding, record := none, indicator := .dark, unsent := true, order := some .relatch,
                 serial := c.serial + 1, tries := 0,
                 owed := some { release := r.number, rider := if r.counted then r.rider else none,
                                charged := r.charged } }).dropTest r.rider)

/-- The presence timer at 0 on an ONLINE station: ISLANDED, islanded time 0, timer stopped, the islanded-grant count as it
stands; the REFERRED records settled one by one, oldest first; every polled dock of mode CLOSE unsent. No record is then
REFERRED. -/
def Obligations.PresenceTimerExpiry : Prop :=
  ∀ s : State, s.resetnLow = false → s.presence = some 0 → s.condition = .online →
    ∀ t : State, t = (s.records.filter fun r => r.state == .referred).foldl State.settle
      { s with condition := .islanded, islandedTime := 0, presence := none } →
    ∃ u : State, exec .presenceTimerExpiry s = .next u ∧ u = { t with ctxs := u.ctxs } ∧
      u.condition = .islanded ∧ u.presence = none ∧ u.islandedTime = 0 ∧ u.islandedGrants = s.islandedGrants ∧
      (∀ d, u.ctx d =
        if s.polled d = true ∧ (s.desc d).mode = .close then { t.ctx d with unsent := true } else t.ctx d) ∧
      (ReleasesSound s → ∀ r ∈ u.records, r.state ≠ .referred)

/-! ## Head passes and queries -/

/-- A HEAD_PASS is judged in order: NO_DOCK above dock 47, BAD_LENGTH above 64 bytes of payload, NO_DOCK for a dock that is not
polled or that is ABSENT or has missed 8 polls, BUSY while the slot of its string is taken; else it enters the slot, with no
reply. -/
def Obligations.HeadPassIsJudgedInOrder : Prop :=
  ∀ (code : Half) (b : Byte) (payload : List Byte) (s : State), Listening s code → payload.length ≤ 1023 →
    (47 < b.toNat → exec (.headPass code (b :: payload)) s = .next (s.heard.offer (.headReply b .noDock []))) ∧
    ∀ d : DockNo, d.val = b.toNat →
      (64 < payload.length →
        exec (.headPass code (b :: payload)) s = .next (s.heard.offer (.headReply b .badLength []))) ∧
      (payload.length ≤ 64 →
        (s.polled d = false → exec (.headPass code (b :: payload)) s = .next (s.heard.offer (.headReply b .noDock []))) ∧
        ∀ m, s.polled d = true → stringOf s.params d = some m →
          ((s.ctx d).state = .absent ∨ 8 ≤ (s.ctx d).missCount →
            exec (.headPass code (b :: payload)) s = .next (s.heard.offer (.headReply b .noDock []))) ∧
          ((s.ctx d).state ≠ .absent → (s.ctx d).missCount < 8 →
            ((s.str m).headPass ≠ none →
              exec (.headPass code (b :: payload)) s = .next (s.heard.offer (.headReply b .busy []))) ∧
            ((s.str m).headPass = none → exec (.headPass code (b :: payload)) s =
              .next (s.heard.setStr m { s.str m with headPass := some { dock := d, payload := payload } }))))

/-- A QUERY of one of the seven indexed targets is answered with the items from the first index onward, up to the requested
count, the last item held and the number that fit; the next index is present when items did not fit and requested items remain.
The commands: QUERY_DOCK_ROWS, QUERY_CLASS_ROWS, QUERY_PARAM_ROWS, QUERY_KEY, QUERY_BLOCK_LIST, QUERY_RELEASE_LIST,
QUERY_DOCK_CONTEXTS. -/
def Obligations.IndexedQueries : Prop :=
  ∀ (i : Instr) (code first : Half) (target n flags : Byte) (items : List (List Byte)) (fit : Nat) (s : State),
    frameOf i = some (.query, code, [target] ++ halfBytes first ++ [n, flags]) → Listening s code →
    ((target = 1 ∧ fit = 31 ∧ items = (List.finRange 48).map fun d => dockRowItem (s.desc d)) ∨
     (target = 2 ∧ fit = 4 ∧ items = (List.finRange 4).map fun c => classRowItem (s.classRow c)) ∨
     (target = 3 ∧ fit = 6 ∧ items = (List.range 6).map fun j => paramRowItem s.params j) ∨
     (target = 4 ∧ fit = 4 ∧ items = (List.finRange 4).map fun k => keyRowItem (s.keyRow k)) ∨
     (target = 6 ∧ fit = 41 ∧ items = s.blocks.map blockItem) ∨
     (target = 7 ∧ fit = 10 ∧ items = s.records.map recordItem) ∨
     (target = 8 ∧ fit = 12 ∧ items = (List.finRange 48).map fun d => contextItem (s.heard.ctx d))) →
    ∀ wanted : Nat, wanted = min n.toNat (items.length - first.toNat) →
    exec i s = .next (s.heard.offer (.queryReply target false first (min wanted fit)
      (if fit < wanted then some (first.toNat + fit) else none)
      ((items.drop first.toNat).take (min wanted fit)).flatten))

/-- A QUERY by rider key returns the entry that the lookup finds, or reports the key absent; a QUERY of the counters returns
the counts as they stand, and with the clear flag, once its reply has joined the queue, sets the link counters and every dock's
CRC-error, miss and unreported-refusal counts to 0; a reply dropped for want of room clears nothing. An unknown target is
answered BAD_QUERY (its first index sent as 0: log entry 21). The commands: QUERY_RIDER, QUERY_COUNTERS, QUERY_COUNTER_CLEAR.
-/
def Obligations.RiderAndCounterQueries : Prop :=
  ∀ (i : Instr) (code : Half) (k : Key) (a b c flags target : Byte) (s : State), Listening s code →
    (frameOf i = some (.query, code, [5] ++ wordBytes k) →
      exec i s = .next (s.heard.offer (.queryReply 5 false 0 1 none (riderItem k (s.lookup k))))) ∧
    (frameOf i = some (.query, code, [9, a, b, c, flags]) →
      ∀ reply : Uplink, reply = .queryReply 9 false 0 1 none s.heard.counterItem →
      (flags.getLsbD 0 = false ∨ 64 ≤ s.heard.uplink.length → exec i s = .next (s.heard.offer reply)) ∧
      (flags.getLsbD 0 = true → s.heard.uplink.length < 64 → ∃ t : State, exec i s = .next t ∧
        t = { s.heard with uplink := s.heard.uplink ++ [reply], badFrames := 0, foreignFrames := 0, drops := 0,
                           ctxs := t.ctxs } ∧
        ∀ d, t.ctx d = { s.heard.ctx d with crcErrors := 0, missCount := 0, unreported := 0 })) ∧
    (frameOf i = some (.query, code, [target, a, b, c, flags]) → target = 0 ∨ 9 < target.toNat →
      exec i s = .next (s.heard.offer (.queryReply target true 0 0 none [])))

/-- The words of the Key Table are never sent in answer to a QUERY: whatever stands in K0 to K4, a QUERY of any target does the
same, reply and all, on two stations whose key rows agree in their valid flags. -/
def Obligations.KeyWordsAreNeverSent : Prop :=
  ∀ (i : Instr) (code : Half) (body : List Byte) (s t : State) (keys : Vector KeyRow 4),
    frameOf i = some (.query, code, body) → body.length ≤ 1024 → s.deframer = .initial →
    (∀ k, (keys.get k).valid = (s.keyRow k).valid) →
    exec i s = .next t → exec i { s with keys := keys } = .next { t with keys := keys }

/-! ## The dock strings -/

/-- The choice of the next exchange: the lowest member above the position that is due in the current cycle, else the lowest due
member of the first following cycle in which one is due; none exactly when the string has no member. A reduced member, ABSENT
or at 8 misses, is due in the cycle with count 0 alone. (So the first cycle after a runtime reset runs with count 0: log entry
41.) -/
def Obligations.PollChoice : Prop :=
  ∀ (s : State) (m : StringId),
    ∀ member : DockNo → Prop, (∀ d, member d ↔ s.polled d = true ∧ stringOf s.params d = some m) →
    ∀ due : DockNo → Fin 8 → Prop,
      (∀ d c, due d c ↔ ((s.ctx d).state ≠ .absent ∧ (s.ctx d).missCount < 8) ∨ c = 0) →
    ∀ above : DockNo → Prop, (∀ d, above d ↔ ∀ p, (s.str m).position = some p → p < d) →
    (s.chooseNext m = none ↔ ∀ d, ¬member d) ∧
    (∀ d, member d → above d → due d (s.str m).cycle →
      (∀ e < d, member e → above e → ¬due e (s.str m).cycle) → s.chooseNext m = some ((s.str m).cycle, d)) ∧
    ∀ (j : Nat) (d : DockNo), (∀ e, member e → above e → ¬due e (s.str m).cycle) → 1 ≤ j → j ≤ 8 →
      (∀ i, 1 ≤ i → i < j → ∀ e, member e → ¬due e ((s.str m).cycle + Fin.ofNat 8 i)) →
      member d → due d ((s.str m).cycle + Fin.ofNat 8 j) →
      (∀ e < d, member e → ¬due e ((s.str m).cycle + Fin.ofNat 8 j)) →
      s.chooseNext m = some ((s.str m).cycle + Fin.ofNat 8 j, d)

/-- The line idle in CLEARING. With no member left the String Master goes to IDLE. Else the chosen dock is polled: the exchange
is PASS when the head-pass slot names it, with the payload on the line and nothing changed at the dock; else ORDINARY, with the
order in the slot and its serial, and the shown indicator when it is unsent; a carried order's tries rise, the unsent mark is
cleared. -/
def Obligations.PollSend : Prop :=
  ∀ (s : State) (m : StringId), s.resetnLow = false → (s.str m).line = .clearing →
    ∀ line : List Byte → List Byte, line = (fun core => core ++ halfBytes (crc16 core)) →
    (s.members m = [] → exec (.pollSend m) s =
      .next (s.setStr m { s.str m with line := .idle, cycle := 0, position := none, driverEnable := false })) ∧
    ∀ (n : Fin 8) (d : DockNo), s.chooseNext m = some (n, d) →
      (∀ payload, (s.str m).headPass = some { dock := d, payload := payload } → exec (.pollSend m) s =
        .next (s.setStr m { s.str m with
          line := .polling, cycle := n, position := some d, driverEnable := true
          exchange := some { dock := d, aliasSent := (s.desc d).aliasNo, kind := .pass, serial := none, discarded := false }
          pollLine := line ([(s.desc d).aliasNo, 0x80, natByte payload.length] ++ payload) })) ∧
      ((∀ p, (s.str m).headPass = some p → p.dock ≠ d) →
        ∀ shown : Indicator, shown = (if s.condition = .islanded ∧ (s.desc d).mode = .close then .dark
                                      else (s.ctx d).indicator) →
        exec (.pollSend m) s =
          .next ((s.setStr m { s.str m with
            line := .polling, cycle := n, position := some d, driverEnable := true
            exchange := some { dock := d, aliasSent := (s.desc d).aliasNo, kind := .ordinary,
                               serial := if (s.ctx d).order = none then none else some (s.ctx d).serial, discarded := false }
            pollLine := line ([(s.desc d).aliasNo,
                (if (s.ctx d).order = none then 0 else 2) ||| (if (s.ctx d).unsent then 1 else 0)] ++
              (match (s.ctx d).order with
                | none => []
                | some .unlatch => [1, (s.ctx d).serial]
                | some .relatch => [2, (s.ctx d).serial]) ++
              (if (s.ctx d).unsent then [indicatorCode shown, indicatorReason shown, indicatorDetail shown] else [])) }).modCtx
            d fun c => { c with tries := if c.order = none then c.tries else min 3 (c.tries + 1), unsent := false }))

/-- The end of an ORDINARY exchange. A discarded reply only ends it. A good reply is taken at the dock in its three parts; a
window without one is a miss, with the CRC-error count raised when characters came. Last comes the try test: an order in the
slot whose serial this exchange carried and whose tries stand at 3 has failed. -/
def Obligations.OrdinaryExchangeEnd : Prop :=
  ∀ (s : State) (m : StringId) (e : Exchange) (rx : List Byte), WindowOpen s m e .ordinary →
    ∀ done : State → State, done = (fun t =>
      if (t.ctx e.dock).order ≠ none ∧ e.serial = some (t.ctx e.dock).serial ∧ (t.ctx e.dock).tries = 3
      then t.orderFailed e.dock else t) →
    (e.discarded = true → exec (.ordinaryExchangeEnd m rx) s = .next (exchangeOver s m)) ∧
    (e.discarded = false →
      (∀ r, goodReply e.aliasSent rx = some r → exec (.ordinaryExchangeEnd m rx) s =
        .next (done ((((exchangeOver s m).replyStatus e.dock r).replyAck e.dock r).replyEvent e.dock r
          (s.ctx e.dock).bikePresent))) ∧
      (goodReply e.aliasSent rx = none →
        (rx = [] → exec (.ordinaryExchangeEnd m rx) s = .next (done ((exchangeOver s m).takeMiss e.dock))) ∧
        (rx ≠ [] → exec (.ordinaryExchangeEnd m rx) s =
          .next (done (((exchangeOver s m).modCtx e.dock fun c => { c with crcErrors := min 255 (c.crcErrors + 1) }).takeMiss
            e.dock)))))

/-- The end of a PASS exchange: the slot emptied; a good PASS reply queues HEAD_REPLY DONE with its payload, anything else
NO_REPLY, with the CRC-error count raised when characters came and the reply was not to be discarded. The dock is otherwise left
as it was (incomplete replies counted: log entry 24). -/
def Obligations.PassExchangeEnd : Prop :=
  ∀ (s : State) (m : StringId) (e : Exchange) (rx : List Byte), WindowOpen s m e .pass →
    ∀ t : State, t = (exchangeOver s m).setStr m { (exchangeOver s m).str m with headPass := none } →
    ∀ answer : HeadOutcome → List Byte → Uplink, answer = (fun o p => .headReply (natByte e.dock.val) o p) →
    (e.discarded = true → exec (.passExchangeEnd m rx) s = .next (t.offer (answer .noReply []))) ∧
    (e.discarded = false →
      (∀ payload, goodPassReply e.aliasSent rx = some payload →
        exec (.passExchangeEnd m rx) s = .next (t.offer (answer .done payload))) ∧
      (goodPassReply e.aliasSent rx = none →
        (rx = [] → exec (.passExchangeEnd m rx) s = .next (t.offer (answer .noReply []))) ∧
        (rx ≠ [] → exec (.passExchangeEnd m rx) s =
          .next ((t.modCtx e.dock fun c => { c with crcErrors := min 255 (c.crcErrors + 1) }).offer
            (answer .noReply [])))))

/-- The line of a string: the driver enable falls at the end of a poll's last character; a line stuck in CLEARING is counted
and recovery begins, the sixteenth pulse starts the 20 ms timer, its expiry returns to CLEARING, or to IDLE without members.
Position and cycle count are kept in recovery. -/
def Obligations.LineRecovery : Prop :=
  ∀ (s : State) (m : StringId), s.resetnLow = false →
    ((s.str m).line = .polling →
      exec (.pollLastCharacterEnd m) s = .next (s.setStr m { s.str m with driverEnable := false })) ∧
    ((s.str m).line = .clearing → exec (.lineStuck m) s = .next (s.setStr m { s.str m with
      line := .recovering, stuck := min 255 ((s.str m).stuck + 1), pulses := 16, recoveryTimer := none,
      driverEnable := true })) ∧
    ((s.str m).line = .recovering → 0 < (s.str m).pulses → exec (.breakPulsesDone m) s = .next (s.setStr m { s.str m with
      pulses := 0, recoveryTimer := some 20, driverEnable := false })) ∧
    ((s.str m).line = .recovering → (s.str m).recoveryTimer ≠ none → exec (.recoveryTimerExpiry m) s =
      .next (s.setStr m (if s.members m = []
        then { s.str m with recoveryTimer := none, line := .idle, cycle := 0, position := none, driverEnable := false }
        else { s.str m with recoveryTimer := none, line := .clearing })))

/-- An ORDINARY reply written out by its layout, for any status, bike id, serial and event, is read back as exactly that,
whatever follows it in the window; polled at another alias, cut short or closed by another CRC it is no good reply. A PASS
reply of 0 to 24 bytes gives back its payload. -/
def Obligations.ReplyBytesReadBack : Prop :=
  (∀ (a serial code : Byte) (bike latch : Bool) (id : Option Word) (extra more : List Byte) (event : ReplyEvent),
    (code = 0 ∧ extra = [] ∧ event = .nothing) ∨ (code = 1 ∧ extra.length = 20 ∧ event = .tap (tokenOf extra)) ∨
      (code = 2 ∧ extra = [] ∧ event = .lift) ∨ (code = 3 ∧ extra = [] ∧ event = .docked) ∨
      (∃ fault, code = 4 ∧ extra = [fault] ∧ event = .fault fault) →
    ∀ core : List Byte,
      core = [a, (if latch then 1 else 0) ||| (if bike then 2 else 0) ||| (if id.isSome then 4 else 0), serial, code] ++
        (match id with
          | some w => wordBytes w
          | none => []) ++ extra →
    goodReply a (core ++ halfBytes (crc16 core) ++ more) =
      some { bike := bike, latchClosed := latch, bikeId := id, serial := serial, event := event } ∧
    (∀ b, b ≠ a → goodReply b (core ++ halfBytes (crc16 core) ++ more) = none) ∧
    (∀ crc, crc ≠ crc16 core → goodReply a (core ++ halfBytes crc ++ more) = none) ∧
    ∀ n, n < core.length + 2 → goodReply a ((core ++ halfBytes (crc16 core)).take n) = none) ∧
  ∀ (a : Byte) (payload more core : List Byte), payload.length ≤ 24 →
    core = [a, 0x80, natByte payload.length] ++ payload →
    goodPassReply a (core ++ halfBytes (crc16 core) ++ more) = some payload ∧
    goodReply a (core ++ halfBytes (crc16 core) ++ more) = none

/-! ## The docks -/

/-- The status of a good reply. At an UNSEEN or ABSENT dock: DOCK_EVENT PRESENT with the status, to HOLDING or VACANT by the
bicycle, DARK. At any other: DOCK_EVENT PRESENT of a CLOSED or FAULTED dock at 8 misses; then, in OPEN, a bicycle present with
the latch closed is a re-seat, elsewhere a bicycle shown while the dock holds it absent is an arrival, and one not shown while
the dock holds it present is a lift (by the bike present field: log entry 14). Then the fields mirror the reply, the miss count
is 0, and a RELATCH is set on a dock in HOLDING or CLOSED with the latch open, an empty slot and nothing owed. A re-seat ends
the release as RETURNED_UNUSED with the rider's counts given back, the dock to HOLDING with DARK; an arrival tells DOCKED and
makes a VACANT dock HOLDING with DARK, keeps CLOSED and FAULTED, and changes nothing elsewhere (the field it shows: log entry
13). -/
def Obligations.StatusOfAGoodReply : Prop :=
  (∀ (s : State) (d : DockNo) (r : Reply), (s.ctx d).state = .unseen ∨ (s.ctx d).state = .absent →
     ∀ seen : DockContext → DockContext, seen = (fun c =>
       { c with state := if r.bike then .holding else .vacant, record := none, indicator := .dark, unsent := true,
                bikePresent := if r.bike then .present else .absent, latch := if r.latchClosed then .closed else .opened,
                bikeId := r.bikeId, missCount := 0 }) →
     ∀ told : State, told = s.offer (.dockEvent d (.present r.latchClosed r.bike r.bikeId)) →
     (r.bike = true → r.latchClosed = false → (s.ctx d).order = none → (s.ctx d).owed = none →
       s.replyStatus d r = told.modCtx d fun c =>
         { seen c with order := some .relatch, serial := c.serial + 1, tries := 0 }) ∧
     (r.bike = false ∨ r.latchClosed = true ∨ (s.ctx d).order ≠ none ∨ (s.ctx d).owed ≠ none →
       s.replyStatus d r = told.modCtx d seen)) ∧
  (∀ (s : State) (d : DockNo) (r : Reply), (s.ctx d).state ≠ .unseen → (s.ctx d).state ≠ .absent →
     ∀ told : State, told = (if ((s.ctx d).state = .closed ∨ (s.ctx d).state = .faulted) ∧ (s.ctx d).missCount = 8
       then s.offer (.dockEvent d (.present r.latchClosed r.bike r.bikeId)) else s) →
     ∀ mirrored : State → State, mirrored = (fun t => t.modCtx d fun c =>
       { c with bikePresent := if r.bike then .present else .absent, latch := if r.latchClosed then .closed else .opened,
                bikeId := r.bikeId, missCount := 0 }) →
     ∀ settled : State → State, settled = (fun t =>
       if ((t.ctx d).state = .holding ∨ (t.ctx d).state = .closed) ∧ r.latchClosed = false ∧ (t.ctx d).order = none ∧
         (t.ctx d).owed = none
       then (mirrored t).modCtx d fun c => { c with order := some .relatch, serial := c.serial + 1, tries := 0 }
       else mirrored t) →
     (r.bike = true → (s.ctx d).state = .opened →
       (r.latchClosed = true → s.replyStatus d r = settled (told.reseatAt d)) ∧
       (r.latchClosed = false → s.replyStatus d r = settled told)) ∧
     (r.bike = true → (s.ctx d).state ≠ .opened →
       ((s.ctx d).bikePresent = .absent → s.replyStatus d r = settled (told.arriveAt d r.bikeId)) ∧
       ((s.ctx d).bikePresent ≠ .absent → s.replyStatus d r = settled told)) ∧
     (r.bike = false →
       ((s.ctx d).bikePresent = .present → s.replyStatus d r = settled (told.liftAt d .present)) ∧
       ((s.ctx d).bikePresent ≠ .present → s.replyStatus d r = settled told))) ∧
  ∀ (s : State) (d : DockNo) (bikeId : Option Word),
    (∀ r, ReleasesSound s → r ∈ s.records → r.dock = d → s.reseatAt d =
      ((((s.refundFor r).offer (reportFor r .returnedUnused .nothing)).eraseRecord r.number).modCtx d fun c =>
        { c with state := .holding, record := none, indicator := .dark, unsent := true }).dropTest r.rider) ∧
    ((s.ctx d).state = .vacant → s.arriveAt d bikeId =
      (s.offer (.dockEvent d (.docked bikeId))).modCtx d fun c =>
        { c with state := .holding, record := none, indicator := .dark, unsent := true, bikePresent := .present }) ∧
    ((s.ctx d).state = .closed ∨ (s.ctx d).state = .faulted → s.arriveAt d bikeId =
      (s.offer (.dockEvent d (.docked bikeId))).modCtx d fun c => { c with bikePresent := .present }) ∧
    ((s.ctx d).state = .holding ∨ (s.ctx d).state = .checking ∨ (s.ctx d).state = .opening → s.arriveAt d bikeId = s)

/-- The event of a good reply, taken in the state that status and acknowledgement have left; `before` is the bike present field
before the reply. A TAP goes to the Admission Unit. A LIFT is a lift at the dock, unless the dock is VACANT or its bicycle
already gone. DOCKED is a re-seat in OPEN and elsewhere an arrival, unless the status already showed it. A FAULT queues
HEAD_FAULT and then removes the dock's record as FAULT, with the rider's counts given back unless it was REFERRED, and takes
the dock to FAULTED; HOLDING and VACANT go to FAULTED too, CLOSED and FAULTED are kept. (The bike present field after LIFT and
DOCKED: log entry 13; the field before the reply: log entry 33; HEAD_FAULT before the report: log entry 16.) -/
def Obligations.EventOfAGoodReply : Prop :=
  ∀ (s : State) (d : DockNo) (r : Reply) (before : Presence),
    (r.event = .nothing → s.replyEvent d r before = s) ∧
    (∀ t, r.event = .tap t → s.replyEvent d r before = s.admitTap d t) ∧
    (r.event = .lift →
      ((s.ctx d).state = .vacant ∨ (s.ctx d).bikePresent = .absent → s.replyEvent d r before = s) ∧
      ((s.ctx d).state ≠ .vacant → (s.ctx d).bikePresent ≠ .absent → s.replyEvent d r before =
        (s.liftAt d before).modCtx d fun c => { c with bikePresent := .absent })) ∧
    (r.event = .docked →
      ((s.ctx d).state = .opened → s.replyEvent d r before = s.reseatAt d) ∧
      ((s.ctx d).state ≠ .opened →
        (r.bike = true → before = .absent → s.replyEvent d r before = s) ∧
        (r.bike = false ∨ before ≠ .absent → s.replyEvent d r before = s.arriveAt d r.bikeId))) ∧
    ∀ code, r.event = .fault code →
      ∀ told : State, told = s.offer (.dockEvent d (.headFault code)) →
      ∀ faulted : DockContext → DockContext,
        faulted = (fun c => { c with state := .faulted, record := none, order := none, tries := 0, indicator := .dark,
                                     unsent := true, owed := none }) →
      ((s.ctx d).state = .closed ∨ (s.ctx d).state = .faulted → s.replyEvent d r before = told) ∧
      ((s.ctx d).state = .holding ∨ (s.ctx d).state = .vacant → s.replyEvent d r before = told.modCtx d faulted) ∧
      ∀ x, ReleasesSound s → x ∈ s.records → x.dock = d → s.replyEvent d r before =
        ((((if x.state = .referred then told else told.refundFor x).offer (reportFor x .fault (.headFault code))).eraseRecord
          x.number).modCtx d faulted).dropTest x.rider

/-- A lift at the dock, by the dock's state: a late lift with relatch owed in HOLDING or CLOSED; FORCED_LIFT in HOLDING, and in
CLOSED or FAULTED when the dock showed a bicycle before; ABANDONED and FORCED_LIFT in CHECKING; LIFTED in OPENING and OPEN;
nothing in VACANT. (The report of an ABANDONED record goes before the DOCK_EVENT: log entry 16.) -/
def Obligations.LiftAtTheDock : Prop :=
  ∀ (s : State) (d : DockNo) (before : Presence),
    ∀ vacant : DockContext → DockContext,
      vacant = (fun c => { c with state := .vacant, record := none, indicator := .dark, unsent := true }) →
    ∀ forced : Uplink, forced = .dockEvent d (.forcedLift (s.ctx d).bikeId) →
    ((s.ctx d).state = .vacant → s.liftAt d before = s) ∧
    ((s.ctx d).state = .holding → (s.ctx d).owed = none →
      s.liftAt d before = (s.offer forced).modCtx d fun c => { vacant c with order := none, tries := 0 }) ∧
    ((s.ctx d).state = .closed ∨ (s.ctx d).state = .faulted → (s.ctx d).owed = none →
      s.liftAt d before =
        (if before = .present then s.offer forced else s).modCtx d fun c => { c with order := none, tries := 0 }) ∧
    (∀ o, (s.ctx d).owed = some o → ∀ t : State,
      t = ((match o.rider with
            | none => s
            | some k => s.modRider k fun e =>
                { e with bikesOut := min 15 (e.bikesOut + 1)
                         allowance := if o.charged then e.allowance - 1 else e.allowance }).offer
        (.releaseReport { number := o.release, dock := d, outcome := .lateLift, rider := o.rider, source := none,
                          cond := none, cls := none, seq := none, charged := o.charged, counted := o.rider.isSome,
                          bikeId := (s.ctx d).bikeId, detail := .nothing })) →
      ((s.ctx d).state = .holding →
        s.liftAt d before = t.modCtx d fun c => { vacant c with order := none, tries := 0, owed := none }) ∧
      ((s.ctx d).state = .closed →
        s.liftAt d before = t.modCtx d fun c => { c with order := none, tries := 0, owed := none })) ∧
    ∀ r, ReleasesSound s → r ∈ s.records → r.dock = d →
      (r.state = .referred → s.liftAt d before =
        ((((s.offer (reportFor r .abandoned .nothing)).eraseRecord r.number).offer forced).modCtx d vacant).dropTest
          r.rider) ∧
      (r.state ≠ .referred → ∀ report : Uplink,
        report = .releaseReport { number := r.number, dock := d, outcome := .lifted, rider := r.rider, source := r.source,
                                  cond := r.cond, cls := r.cls, seq := r.seq, charged := r.charged, counted := r.counted,
                                  bikeId := r.bikeId, detail := .nothing } →
        (r.state = .opening → s.liftAt d before = (((s.offer report).eraseRecord r.number).modCtx d fun c =>
          { vacant c with order := none, tries := 0 }).dropTest r.rider) ∧
        (r.state = .opened → s.liftAt d before =
          (((s.offer report).eraseRecord r.number).modCtx d vacant).dropTest r.rider))

/-- An echo of the serial of the order in the slot acknowledges it: an UNLATCH in OPENING makes record and dock OPEN with the
lift timer started, a RELATCH clears relatch owed; the slot is emptied. Another serial, or an empty slot, changes nothing. A
failed UNLATCH in OPENING removes the record with the rider's counts given back and RELEASE_REPORT FAULT UNLATCH_FAILED, the
dock to FAULTED; a failed RELATCH takes a dock in HOLDING, UNSEEN, VACANT or CLOSED to FAULTED, and in CHECKING is withdrawn.
Entering FAULTED empties the slot, clears relatch owed and sets DARK. -/
def Obligations.AcknowledgedAndFailedOrders : Prop :=
  (∀ (s : State) (d : DockNo) (r : Reply),
     (r.serial ≠ (s.ctx d).serial ∨ (s.ctx d).order = none → s.replyAck d r = s) ∧
     (r.serial = (s.ctx d).serial →
       ((s.ctx d).order = some .relatch →
         s.replyAck d r = s.modCtx d fun c => { c with order := none, tries := 0, owed := none }) ∧
       (∀ x, (s.ctx d).order = some .unlatch → ReleasesSound s → x ∈ s.records → x.dock = d → x.state = .opening →
         s.replyAck d r = (s.modRecord x.number fun y =>
           { y with state := .opened, timer := .lift (s.params.liftTimeout * 10) }).modCtx d fun c =>
             { c with state := .opened, order := none, tries := 0 }))) ∧
  ∀ (s : State) (d : DockNo), ∀ faulted : DockContext → DockContext,
    faulted = (fun c => { c with state := .faulted, record := none, order := none, tries := 0, indicator := .dark,
                                 unsent := true, owed := none }) →
    ((s.ctx d).order = some .relatch →
      ((s.ctx d).state = .holding ∨ (s.ctx d).state = .unseen ∨ (s.ctx d).state = .vacant ∨ (s.ctx d).state = .closed →
        s.orderFailed d = s.modCtx d faulted) ∧
      ((s.ctx d).state = .checking → s.orderFailed d = s.modCtx d fun c => { c with order := none, tries := 0 })) ∧
    ∀ r, (s.ctx d).order = some .unlatch → ReleasesSound s → r ∈ s.records → r.dock = d → r.state = .opening →
      s.orderFailed d = ((((s.refundFor r).offer (reportFor r .fault .unlatchFailed)).eraseRecord r.number).modCtx d
        faulted).dropTest r.rider

/-- A miss raises the dock's miss count by 1; at 8 it changes nothing. The eighth, at a dock not ABSENT: the record, if there is
one, removed as FAULT (with the rider's counts given back unless it was REFERRED), the slot emptied, relatch owed cleared, bike
and latch unknown, DARK, to ABSENT but for CLOSED and FAULTED, and DOCK_EVENT ABSENT. -/
def Obligations.MissesAndTheEighth : Prop :=
  ∀ (s : State) (d : DockNo), ∀ silent : DockContext → DockContext,
    silent = (fun c => { c with order := none, tries := 0, owed := none, indicator := .dark, unsent := true,
                                bikePresent := .unknown, latch := .unknown, missCount := 8 }) →
    ∀ gone : DockContext → DockContext, gone = (fun c => { silent c with state := .absent, record := none }) →
    ((s.ctx d).missCount < 7 → s.takeMiss d = s.modCtx d fun c => { c with missCount := c.missCount + 1 }) ∧
    ((s.ctx d).missCount = 8 → s.takeMiss d = s) ∧
    ((s.ctx d).missCount = 7 →
      ((s.ctx d).state = .absent → s.takeMiss d = s.modCtx d fun c => { c with missCount := 8 }) ∧
      ((s.ctx d).state = .closed ∨ (s.ctx d).state = .faulted →
        s.takeMiss d = (s.modCtx d silent).offer (.dockEvent d .absent)) ∧
      ((s.ctx d).state = .unseen ∨ (s.ctx d).state = .vacant ∨ (s.ctx d).state = .holding →
        s.takeMiss d = (s.modCtx d gone).offer (.dockEvent d .absent)) ∧
      ∀ r, ReleasesSound s → r ∈ s.records → r.dock = d → s.takeMiss d =
        (((((if r.state = .referred then s else s.refundFor r).offer (reportFor r .fault .dockAbsent)).eraseRecord
          r.number).modCtx d gone).dropTest r.rider).offer (.dockEvent d .absent))

/-! ## Taps -/

/-- End-around-carry addition, the fold of a token over its key row, and what the checks of a token find, in their order: form,
key slot, tag, station scope, dock scope, and the epoch age, or the time-unchecked mark while the epoch is not valid. -/
def Obligations.TokenChecksInOrder : Prop :=
  (∀ a b : Word, (addEndAround a b).toNat =
    if a.toNat + b.toNat < 2 ^ 32 then a.toNat + b.toNat else a.toNat + b.toNat - 2 ^ 32 + 1) ∧
  (∀ (t : Token) (k : KeyRow), foldTag t k =
    addEndAround (addEndAround (addEndAround (addEndAround k.k4 (t.w0 ^^^ k.k0)) ((t.w1 ^^^ k.k1).rotateLeft 8))
      ((t.w2 ^^^ k.k2).rotateLeft 16)) ((t.w3 ^^^ k.k3).rotateLeft 24)) ∧
  ∀ (s : State) (d : DockNo) (t : Token), ∀ formed : Prop,
    (formed ↔ t.rider ≠ 0 ∧ t.slot.toNat ≤ 3 ∧ t.claimed.toNat ≤ 3 ∧ 1 ≤ t.span.toNat ∧ t.span.toNat ≤ 15 ∧ t.spare = 0) →
    (¬formed → s.tokenCheck d t = .error .malformed) ∧
    ∀ row : KeyRow, formed → (∀ j : Fin 4, j.val = t.slot.toNat → row = s.keyRow j) →
      (row.valid = false → s.tokenCheck d t = .error .keyAbsent) ∧
      (row.valid = true → foldTag t row ≠ t.tag → s.tokenCheck d t = .error .badTag) ∧
      (row.valid = true → foldTag t row = t.tag →
        (t.stationScope ≠ 0 → t.stationScope.toNat ≠ s.stationCode.toNat → s.tokenCheck d t = .error .wrongStation) ∧
        (t.stationScope = 0 ∨ t.stationScope.toNat = s.stationCode.toNat →
          (t.dockScope.toNat ≠ 65535 → t.dockScope.toNat ≠ d.val → s.tokenCheck d t = .error .wrongDock) ∧
          (t.dockScope.toNat = 65535 ∨ t.dockScope.toNat = d.val →
            (s.epochValid = false → s.tokenCheck d t = .ok true) ∧
            (s.epochValid = true → ∀ age : Nat, age = (s.epoch - t.issue).toNat →
              (age < t.span.toNat ∨ age = 65535 → s.tokenCheck d t = .ok false) ∧
              (t.span.toNat ≤ age → age ≤ 32767 → s.tokenCheck d t = .error .expired) ∧
              (32768 ≤ age → age ≤ 65534 → s.tokenCheck d t = .error .early)))))

/-- A tap at the dock gate. An islanded CLOSE dock, and a dock that is not HOLDING with nothing owed, refuse it, and so does a
full Release List; these refusals, and those of form, key slot and tag, set RED and raise the dock's unreported-refusal count
alone. A refusal of scope or age is reported. A tap that passes goes on to its rider. -/
def Obligations.TapAtTheDockGate : Prop :=
  ∀ (s : State) (d : DockNo) (t : Token),
    ∀ quiet : Reason → State, quiet = (fun why => s.modCtx d fun c =>
      { c with indicator := .red why 0, unsent := true, unreported := min 65535 (c.unreported + 1) }) →
    ∀ closed : Prop, (closed ↔ s.condition = .islanded ∧ (s.desc d).mode = .close) →
    (closed → s.admitTap d t = quiet .dockClosed) ∧
    (¬closed →
      ((s.ctx d).state = .vacant → s.admitTap d t = quiet .noBike) ∧
      ((s.ctx d).state = .checking ∨ (s.ctx d).state = .opening ∨ (s.ctx d).state = .opened →
        s.admitTap d t = quiet .dockBusy) ∧
      ((s.ctx d).state = .closed ∨ (s.ctx d).state = .faulted → s.admitTap d t = quiet .dockClosed) ∧
      ((s.ctx d).state = .holding →
        ((s.ctx d).owed ≠ none → s.admitTap d t = quiet .dockBusy) ∧
        ((s.ctx d).owed = none →
          (16 ≤ s.records.length → s.admitTap d t = quiet .stationFull) ∧
          (s.records.length < 16 →
            (∀ why, s.tokenCheck d t = .error why → why = .malformed ∨ why = .keyAbsent ∨ why = .badTag →
              s.admitTap d t = quiet why) ∧
            (∀ why, s.tokenCheck d t = .error why →
              why = .wrongStation ∨ why = .wrongDock ∨ why = .expired ∨ why = .early →
              s.admitTap d t = (redAt s d why).offer (.tapRefused d why t.rider t.seq none)) ∧
            (∀ unchecked, s.tokenCheck d t = .ok unchecked → s.admitTap d t = s.riderTap d t unchecked)))))

/-- The judgement of sequence n by the window's top and used set: absent top, ahead, behind within 15 and unused are accepted
with the window they leave; used or equal is a REPLAY; 16 or more behind is STALE. -/
def Obligations.SequenceJudgement : Prop :=
  (∀ n : Half, judgeSeq none [] n = .accepted n [n]) ∧
  ∀ (top n : Half) (used : List Half), WindowSound
      { key := 1, cls := 0, allowance := 0, bikesOut := 0, review := false, pinned := false, provisional := false,
        dropPending := false, top := some top, used := used, lastUse := 0 } →
    ∀ d : Nat, d = (n - top).toNat →
    (d = 0 → judgeSeq (some top) used n = .replay) ∧
    (1 ≤ d → d ≤ 32767 → ∃ after, judgeSeq (some top) used n = .accepted n after ∧
      ∀ m, m ∈ after ↔ m = n ∨ (m ∈ used ∧ (n - m).toNat ≤ 15)) ∧
    (32768 ≤ d →
      (65536 - d ≤ 15 → n ∈ used → judgeSeq (some top) used n = .replay) ∧
      (65536 - d ≤ 15 → n ∉ used → ∃ after, judgeSeq (some top) used n = .accepted top after ∧
        ∀ m, m ∈ after ↔ m = n ∨ m ∈ used) ∧
      (16 ≤ 65536 - d → judgeSeq (some top) used n = .stale))

/-- A tap that has passed the token checks, at steps 8 to 12: BLOCKED; RIDER_PENDING; REPLAY or STALE; then, with an accepted
sequence consumed whatever follows, CLASS_LOW, EBIKE_NOT_ALLOWED and AT_LIMIT by the effective class; each reported without a
condition code. A tap that passes goes on with its condition code. -/
def Obligations.TapAtItsRider : Prop :=
  ∀ (s : State) (d : DockNo) (t : Token) (unchecked : Bool),
    ∀ told : State → Reason → State,
      told = (fun x why => (redAt x d why).offer (.tapRefused d why t.rider t.seq none)) →
    ∀ classed : State → Fin 4 → Option RiderEntry → State → Prop,
      (∀ x cls known after, classed x cls known after ↔
        ∀ row : ClassRow, row = s.classRow cls → ∀ out : Nat, out = (known.map RiderEntry.bikesOut).getD 0 →
        (cls < (s.desc d).minLevel → after = told x .classLow) ∧
        ((s.desc d).minLevel ≤ cls →
          ((s.desc d).kind = .ebike → row.ebike = false → after = told x .ebikeNotAllowed) ∧
          ((s.desc d).kind ≠ .ebike ∨ row.ebike = true →
            (row.limit ≤ out → after = told x .atLimit) ∧
            (out < row.limit → ∀ c : Fin 4,
              (c = match known with
                | none => 2
                | some e => if e.review then 3 else if 0 < e.allowance ∨ row.charge = false then 0 else 1) →
              after = x.decideTap { dock := d, rider := t.rider, seq := t.seq, unchecked := unchecked, cls := cls,
                                    known := known } c)))) →
    ((∃ b ∈ s.blocks, b.key = t.rider) → s.riderTap d t unchecked = told s .blocked) ∧
    ((∀ b ∈ s.blocks, b.key ≠ t.rider) →
      (s.lookup t.rider = none → ∀ cls : Fin 4, cls.val = t.claimed.toNat →
        classed s cls none (s.riderTap d t unchecked)) ∧
      ∀ e, s.lookup t.rider = some e →
        (e.dropPending = true → s.riderTap d t unchecked = told s .riderPending) ∧
        (e.dropPending = false →
          (judgeSeq e.top e.used t.seq = .replay → s.riderTap d t unchecked = told s .replay) ∧
          (judgeSeq e.top e.used t.seq = .stale → s.riderTap d t unchecked = told s .stale) ∧
          ∀ top used, judgeSeq e.top e.used t.seq = .accepted top used →
            classed (s.modRider t.rider fun e => { e with top := some top, used := used }) e.cls
              (some { e with top := some top, used := used }) (s.riderTap d t unchecked)))

/-- Steps 14 and 15. A time-unchecked tap is referred on an online station with room, else refused EPOCH_UNKNOWN. Another tap
is granted LOCAL by its bit of the local mask, referred with room, and decided by the islanded mask on an islanded station or
without room: ISLANDED or NOT_PERMITTED. A grant of condition 2 first inserts a provisional entry, or is refused TABLE_FULL.
What a grant and a referral write is written out. -/
def Obligations.TapGrantedReferredOrRefused : Prop :=
  ∀ (s : State) (x : Tap) (c : Fin 4),
    ∀ told : Reason → State,
      told = (fun why => (redAt s x.dock why).offer (.tapRefused x.dock why x.rider x.seq (some c))) →
    ∀ new : Record, new =
      { number := s.newNumber, dock := x.dock, rider := some x.rider, state := .referred, source := none, cond := some c,
        cls := some x.cls, seq := some x.seq, charged := false, counted := false, bikeId := (s.ctx x.dock).bikeId,
        timer := .referral (s.params.referralTimeout * 10) } →
    ∀ refer : State, refer =
      ({ s with records := s.records ++ [new], nextNumber := s.newNumber + 1 }.offer
        (.referral s.newNumber x.dock x.rider x.cls c x.seq x.unchecked)).modCtx x.dock (fun k =>
          { k with state := .checking, record := some s.newNumber, indicator := .amber, unsent := true }) →
    ∀ grantIn : State → Source → State, grantIn = (fun (p : State) (src : Source) =>
      ({ p with
          records := s.records ++ [{ new with state := .opening, source := some src, charged := (s.classRow x.cls).charge,
                                              counted := true, timer := .none }], nextNumber := s.newNumber + 1,
          islandedGrants := if s.condition = Condition.islanded ∧ src = Source.islanded then min 65535 (s.islandedGrants + 1)
                            else s.islandedGrants }.modRider x.rider fun e =>
        { e with bikesOut := min 15 (e.bikesOut + 1), lastUse := nowOf s,
                 allowance := if (s.classRow x.cls).charge then e.allowance - 1 else e.allowance }).modCtx x.dock
          (granted s.newNumber)) →
    ∀ made : Option State, made = s.insertRider
      { key := x.rider, cls := x.cls, allowance := 0, bikesOut := 0, review := false, pinned := false, provisional := true,
        dropPending := false, top := some x.seq, used := [x.seq], lastUse := nowOf s } →
    ∀ grants : Source → Prop, (∀ src, grants src ↔
      (c ≠ 2 → s.decideTap x c = grantIn s src) ∧
      (c = 2 → (∀ p, made = some p → s.decideTap x c = grantIn p src) ∧
        (made = none → s.decideTap x c = told .tableFull))) →
    (x.unchecked = true →
      (s.condition = .online → s.uplink.length < 64 → s.decideTap x c = refer) ∧
      (s.condition = .islanded ∨ 64 ≤ s.uplink.length → s.decideTap x c = told .epochUnknown)) ∧
    (x.unchecked = false →
      (s.condition = .online → (s.desc x.dock).localMask.getLsbD c.val = true → grants .localGrant) ∧
      (s.condition = .online → (s.desc x.dock).localMask.getLsbD c.val = false → s.uplink.length < 64 →
        s.decideTap x c = refer) ∧
      (s.condition = .islanded ∨ ((s.desc x.dock).localMask.getLsbD c.val = false ∧ 64 ≤ s.uplink.length) →
        ((s.desc x.dock).islandedMask.getLsbD c.val = true → grants .islanded) ∧
        ((s.desc x.dock).islandedMask.getLsbD c.val = false → s.decideTap x c = told .notPermitted)))

/-! ## What the part sends -/

/-- The layouts of 10.7 of every uplink body, field by field at its offset, with its kind code and its length; a field that is
absent is sent as 0 with its flag clear; and the codes in these bodies. -/
def Obligations.UplinkBodies : Prop :=
  ([.noBike, .dockBusy, .dockClosed, .stationFull, .malformed, .keyAbsent, .badTag, .wrongStation, .wrongDock, .expired, .early,
      .blocked, .riderPending, .replay, .stale, .classLow, .ebikeNotAllowed, .atLimit, .epochUnknown, .notPermitted,
      .tableFull, .noAnswer, .backendDeny].map reasonCode = (List.range 23).map fun n => natByte (n + 1)) ∧
  ([.unpolled, .unseen, .absent, .vacant, .holding, .checking, .opening, .opened, .closed, .faulted].map dockStateCode =
      (List.range 10).map natByte) ∧
  ([.localGrant, .islanded, .central, .fallback, .remote].map sourceCode = [1, 2, 3, 4, 5]) ∧
  ([.release, .relatch, .outOfService, .inService].map actionCode = [1, 2, 3, 4]) ∧
  ([.dock, .cls, .key, .param].map tableCode = [1, 2, 3, 4]) ∧
  ([.lifted, .returnedUnused, .timedOut, .lateLift, .withdrawn, .fault, .abandoned, .settledRefused].map relOutcomeCode =
      [1, 2, 3, 4, 5, 6, 7, 8]) ∧
  ([.done, .refusedState, .noRoom, .notPolled, .badDock, .badAction].map orderOutcomeCode = [1, 2, 3, 4, 5, 6]) ∧
  ([.opened, .badWindow, .loaderBusy, .notOpen, .badRows, .sumMismatch, .range, .aliasClash, .dockInUse, .committed,
      .committedShort, .deferred, .aborted].map loadOutcomeCode = (List.range 13).map fun n => natByte (n + 1)) ∧
  ([.rider, .block].map batchKindCode = [1, 2]) ∧
  ([.none, .batchBusy, .badBatch, .bucketFull, .listFull, .badKey, .badRecord].map stopCode = [0, 1, 2, 3, 4, 5, 6]) ∧
  ([.done, .noDock, .badLength, .busy, .noReply].map headOutcomeCode = [1, 2, 3, 4, 5]) ∧
  ([.powerOn, .full, .runtimeReset, .online].map causeCode = [1, 2, 3, 4]) ∧
  ([.online, .islanded].map conditionByte = [1, 2]) ∧ ([.idle, .opened, .waitingEpoch].map loadStateCode = [0, 1, 2]) ∧
  ∀ (f : Uplink) (b : List Byte), b = uplinkBody f →
    match f with
    | .referral n d k cls c seq unchecked =>
      uplinkCode f = 0x81 ∧ b.length = 12 ∧ halfAt b 0 = n ∧ byteAt b 2 = natByte d.val ∧ wordAt b 3 = k ∧
      byteAt b 7 = natByte cls.val ∧ byteAt b 8 = natByte c.val ∧ halfAt b 9 = seq ∧ byteAt b 11 = natByte unchecked.toNat
    | .tapRefused d why k seq c =>
      uplinkCode f = 0x82 ∧ b.length = 9 ∧ byteAt b 0 = natByte d.val ∧ byteAt b 1 = reasonCode why ∧ wordAt b 2 = k ∧
      halfAt b 6 = seq ∧ byteAt b 8 = match c with | none => 0 | some c => natByte (1 + 2 * c.val)
    | .releaseReport r =>
      uplinkCode f = 0x83 ∧ b.length = 20 ∧ halfAt b 0 = r.number ∧ byteAt b 2 = natByte r.dock.val ∧
      byteAt b 3 = relOutcomeCode r.outcome ∧
      byteAt b 4 = natByte (r.rider.isSome.toNat + 2 * r.source.isSome.toNat + 4 * r.cond.isSome.toNat + 8 * r.charged.toNat +
        16 * r.counted.toNat + 32 * r.bikeId.isSome.toNat) ∧
      wordAt b 5 = r.rider.getD 0 ∧ byteAt b 9 = (r.source.map sourceCode).getD 0 ∧
      byteAt b 10 = natByte ((r.cond.map Fin.val).getD 0) ∧ byteAt b 11 = natByte ((r.cls.map Fin.val).getD 0) ∧
      halfAt b 12 = r.seq.getD 0 ∧ wordAt b 14 = r.bikeId.getD 0 ∧
      (byteAt b 18, byteAt b 19) = match r.detail with
        | .nothing => (0, 0)
        | .withdrawnBy a => (actionCode a, 0)
        | .unlatchFailed => (1, 0)
        | .headFault code => (2, code)
        | .dockAbsent => (3, 0)
        | .refusedWith why => (reasonCode why, 0)
    | .dockEvent d e =>
      uplinkCode f = 0x84 ∧ b.length = 8 ∧ byteAt b 0 = natByte d.val ∧
      (byteAt b 1, byteAt b 2, wordAt b 3, byteAt b 7) = match e with
        | .present latch bike id => (1, natByte (latch.toNat + 2 * bike.toNat + 4 * id.isSome.toNat), id.getD 0, 0)
        | .absent => (2, 0, 0, 0)
        | .docked id => (3, natByte (4 * id.isSome.toNat), id.getD 0, 0)
        | .forcedLift id => (4, natByte (4 * id.isSome.toNat), id.getD 0, 0)
        | .headFault code => (5, 0, 0, code)
    | .lateNotice n d k grant reason allowance =>
      uplinkCode f = 0x85 ∧ b.length = 10 ∧ halfAt b 0 = n ∧ byteAt b 2 = d ∧ wordAt b 3 = k ∧
      byteAt b 7 = natByte grant.toNat ∧ byteAt b 8 = reason ∧ byteAt b 9 = natByte allowance.toNat
    | .orderReply d a outcome st release =>
      uplinkCode f = 0x86 ∧ b.length = 6 ∧ byteAt b 0 = d ∧ byteAt b 1 = a ∧ byteAt b 2 = orderOutcomeCode outcome ∧
      byteAt b 3 = dockStateCode st ∧ halfAt b 4 = release.getD 0
    | .loadReply held outcome completed =>
      uplinkCode f = 0x87 ∧ b.length = 6 ∧
      ((byteAt b 0, byteAt b 1, byteAt b 2) = match held with
        | none => (0, 0, 0)
        | some (t, first, last) => (tableCode t, natByte first, natByte last)) ∧
      byteAt b 3 = loadOutcomeCode outcome ∧ halfAt b 4 = BitVec.ofNat 16 completed
    | .batchReply kind n applied stop key =>
      uplinkCode f = 0x88 ∧ b.length = 9 ∧ byteAt b 0 = batchKindCode kind ∧ halfAt b 1 = n ∧ byteAt b 3 = natByte applied ∧
      byteAt b 4 = stopCode stop ∧ wordAt b 5 = key
    | .headReply d outcome payload =>
      uplinkCode f = 0x89 ∧ b.length = 3 + payload.length ∧ byteAt b 0 = d ∧ byteAt b 1 = headOutcomeCode outcome ∧
      byteAt b 2 = natByte payload.length ∧ b.drop 3 = payload
    | .queryReply target bad first count next items =>
      uplinkCode f = 0x8A ∧ b.length = 8 + items.length ∧ byteAt b 0 = target ∧ byteAt b 1 = natByte bad.toNat ∧
      halfAt b 2 = first ∧ byteAt b 4 = natByte count ∧ byteAt b 5 = natByte next.isSome.toNat ∧
      halfAt b 6 = BitVec.ofNat 16 (next.getD 0) ∧ b.drop 8 = items
    | .stationState r =>
      uplinkCode f = 0x8B ∧ b.length = 22 ∧ byteAt b 0 = causeCode r.cause ∧ (halfAt b 1).toNat = r.stationCode.toNat ∧
      byteAt b 3 = conditionByte r.condition ∧ byteAt b 4 = natByte r.epochValid.toNat ∧ halfAt b 5 = r.epoch ∧
      byteAt b 7 = natByte r.behindMarks ∧ byteAt b 8 = natByte r.closeMismatch ∧
      halfAt b 9 = BitVec.ofNat 16 r.badFrames ∧ halfAt b 11 = BitVec.ofNat 16 r.foreignFrames ∧
      byteAt b 13 = natByte r.drops ∧ byteAt b 14 = loadStateCode r.loadState ∧ byteAt b 15 = natByte r.recordCount ∧
      byteAt b 16 = natByte r.aborted ∧ byteAt b 17 = natByte r.discarded ∧
      halfAt b 18 = BitVec.ofNat 16 r.islandedSeconds ∧ halfAt b 20 = BitVec.ofNat 16 r.islandedGrants

/-- The layouts of the items of QUERY replies, field by field at its offset, with their lengths. A live DOCK row and a live
CLASS row are sent as words that a load reads back as the same row; the mode MASK is sent as 0 (log entry 43). A PARAM row is
sent as its value, a KEY row as its valid flag alone. Rider, record, context and counter items are those of 10.7. -/
def Obligations.QueryItems : Prop :=
  (∀ (x : DockDesc) (b : List Byte), b = dockRowItem x →
    b.length = 8 ∧ byteAt b 0 = (match x.kind with | .empty => 0 | .standard => 1 | .ebike => 2) ∧ byteAt b 1 = x.aliasNo ∧
    byteAt b 2 = natByte x.minLevel.val ∧ byteAt b 3 = (match x.mode with | .mask => 0 | .close => 1) ∧
    (byteAt b 4).toNat = x.localMask.toNat ∧ (byteAt b 5).toNat = x.islandedMask.toNat ∧ halfAt b 6 = 0 ∧
    (x.aliasNo.toNat ≤ 31 → readDockRow [wordAt b 0, wordAt b 4] = x)) ∧
  (∀ (x : ClassRow) (b : List Byte), b = classRowItem x →
    b.length = 4 ∧ byteAt b 0 = natByte x.limit ∧ byteAt b 1 = natByte x.ebike.toNat ∧ byteAt b 2 = natByte x.charge.toNat ∧
    byteAt b 3 = 0 ∧ (x.limit ≤ 15 → readClassRow [wordAt b 0] = x)) ∧
  (∀ p : Params, (List.range 6).map (paramRowItem p) =
    [wordBytes (BitVec.ofNat 32 p.presenceTimeout), wordBytes (BitVec.ofNat 32 p.referralTimeout),
     wordBytes (BitVec.ofNat 32 p.liftTimeout), wordBytes (BitVec.ofNat 32 p.epochLength),
     [p.rangeA.first, p.rangeA.last, 0, 0], [p.rangeB.first, p.rangeB.last, 0, 0]]) ∧
  (∀ x : KeyRow, keyRowItem x = [natByte x.valid.toNat]) ∧
  (∀ (x : BlockEntry) (b : List Byte), b = blockItem x → b.length = 6 ∧ wordAt b 0 = x.key ∧ halfAt b 4 = x.expiry) ∧
  (∀ k : Key, riderItem k none = wordBytes k ++ List.replicate 41 0) ∧
  (∀ (k : Key) (e : RiderEntry) (b : List Byte), b = riderItem k (some e) →
    b.length = 45 ∧ wordAt b 0 = k ∧
    byteAt b 4 = natByte (1 + 2 * e.review.toNat + 4 * e.pinned.toNat + 8 * e.provisional.toNat + 16 * e.dropPending.toNat +
      32 * e.top.isSome.toNat) ∧
    byteAt b 5 = natByte e.cls.val ∧ byteAt b 6 = natByte e.allowance ∧ byteAt b 7 = natByte e.bikesOut ∧
    halfAt b 8 = e.top.getD 0 ∧ halfAt b 10 = e.lastUse ∧ byteAt b 12 = natByte e.used.length ∧
    ∀ j < 16, halfAt b (13 + 2 * j) = e.used.getD j 0) ∧
  (∀ (r : Record) (b : List Byte), b = recordItem r →
    b.length = 24 ∧ halfAt b 0 = r.number ∧ byteAt b 2 = natByte r.dock.val ∧
    byteAt b 3 = (match r.state with | .referred => 1 | .opening => 2 | .opened => 3) ∧
    byteAt b 4 = natByte (r.rider.isSome.toNat + 2 * r.source.isSome.toNat + 4 * r.cond.isSome.toNat + 8 * r.charged.toNat +
      16 * r.counted.toNat + 32 * r.bikeId.isSome.toNat) ∧
    wordAt b 5 = r.rider.getD 0 ∧ byteAt b 9 = (r.source.map sourceCode).getD 0 ∧
    byteAt b 10 = natByte ((r.cond.map Fin.val).getD 0) ∧ byteAt b 11 = natByte ((r.cls.map Fin.val).getD 0) ∧
    halfAt b 12 = r.seq.getD 0 ∧ wordAt b 14 = r.bikeId.getD 0 ∧
    ((byteAt b 18, halfAt b 19) = match r.timer with
      | .none => (0, 0)
      | .referral n => (1, BitVec.ofNat 16 n)
      | .lift n => (2, BitVec.ofNat 16 n)) ∧
    b.drop 21 = [0, 0, 0]) ∧
  (∀ (c : DockContext) (b : List Byte), b = contextItem c → c.tries ≤ 3 →
    b.length = 20 ∧ byteAt b 0 = dockStateCode c.state ∧
    byteAt b 1 = natByte ((match c.bikePresent with | .unknown => 0 | .absent => 1 | .present => 2) +
      4 * (match c.latch with | .unknown => 0 | .opened => 1 | .closed => 2) + 16 * c.bikeId.isSome.toNat +
      32 * c.owed.isSome.toNat + 64 * (c.owed.bind Owed.rider).isSome.toNat +
      128 * ((c.owed.map Owed.charged).getD false).toNat) ∧
    wordAt b 2 = c.bikeId.getD 0 ∧
    byteAt b 6 = natByte ((match c.order with | none => 0 | some .unlatch => 1 | some .relatch => 2) + 4 * c.tries +
      16 * (match c.indicator with | .dark => 0 | .green => 1 | .amber => 2 | .red _ _ => 3) + 64 * c.record.isSome.toNat +
      128 * c.unsent.toNat) ∧
    byteAt b 7 = c.serial ∧ byteAt b 8 = indicatorReason c.indicator ∧ byteAt b 9 = indicatorDetail c.indicator ∧
    byteAt b 10 = natByte c.missCount ∧ byteAt b 11 = natByte c.crcErrors ∧ halfAt b 12 = (c.owed.map Owed.release).getD 0 ∧
    wordAt b 14 = (c.owed.bind Owed.rider).getD 0 ∧ halfAt b 18 = c.record.getD 0) ∧
  ∀ (s : State) (b : List Byte), b = s.counterItem →
    b.length = 229 ∧ halfAt b 0 = BitVec.ofNat 16 s.badFrames ∧ halfAt b 2 = BitVec.ofNat 16 s.foreignFrames ∧
    byteAt b 4 = natByte s.drops ∧ byteAt b 5 = conditionByte s.condition ∧ byteAt b 6 = natByte s.epochValid.toNat ∧
    halfAt b 7 = nowOf s ∧ byteAt b 9 = natByte s.behindMarks ∧ halfAt b 10 = BitVec.ofNat 16 (s.epochTimer.getD 0) ∧
    byteAt b 12 = natByte s.closeMismatch ∧
    halfAt b 13 = BitVec.ofNat 16 ((List.finRange 1024).flatMap fun i =>
      (List.finRange 4).filter fun w => ((s.bucket i).get w).isSome).length ∧
    halfAt b 15 = BitVec.ofNat 16 s.blocks.length ∧ byteAt b 17 = natByte s.records.length ∧
    byteAt b 18 = loadStateCode s.loader.state ∧ byteAt b 19 = (s.loader.table.map tableCode).getD 0 ∧
    byteAt b 20 = natByte ((s.loader.window.map Prod.fst).getD 0) ∧
    byteAt b 21 = natByte ((s.loader.window.map Prod.snd).getD 0) ∧ byteAt b 22 = natByte s.loader.rowCounter ∧
    halfAt b 23 = BitVec.ofNat 16 s.loader.completed ∧
    ((byteAt b 25, halfAt b 26, byteAt b 28) = match s.batch with
      | none => (0, 0, 0)
      | some x => (batchKindCode x.kind, x.number, natByte x.applied)) ∧
    (∀ (m : StringId) (i : Nat), i = (match m with | .a => 29 | .b => 33) →
      byteAt b i = (match (s.str m).line with | .idle => 0 | .polling => 1 | .clearing => 2 | .recovering => 3) ∧
      byteAt b (i + 1) = natByte (s.str m).cycle.val ∧
      byteAt b (i + 2) = (match (s.str m).position with | none => 0xFF | some d => natByte d.val) ∧
      byteAt b (i + 3) = natByte (s.str m).stuck) ∧
    ∀ d : DockNo, byteAt b (37 + 4 * d.val) = natByte (s.ctx d).crcErrors ∧
      byteAt b (38 + 4 * d.val) = natByte (s.ctx d).missCount ∧
      halfAt b (39 + 4 * d.val) = BitVec.ofNat 16 (s.ctx d).unreported

/-! ## Transmission -/

/-- A transmission begins when the transmitter is free, a frame waits and LINK_READY is high: the oldest frame leaves the queue
and LTXD carries its start byte, length, the strapped code, kind, body and CRC. It ends with the frame taken as sent (a view of
the model's own: log entry 32) and fill on LTXD (what the line then carries: log entry 8). With LINK_READY low, an empty queue
or a frame being sent, none begins. RESETN going low cuts a transmission off and holds LTXD, and every other field keeps its
value (log entry 38); while it is low no command but a power-on reset changes anything (log entry 5). -/
def Obligations.TransmissionAndResetn : Prop :=
  (∀ (s : State), s.resetnLow = false →
     (∀ f rest core, s.transmitter = .fill → s.uplink = f :: rest →
       core = halfBytes (BitVec.ofNat 16 (uplinkBody f).length) ++ halfBytes (s.stationCode.zeroExtend 16) ++
         [uplinkCode f] ++ uplinkBody f →
       exec (.transmitStart true) s = .next { s with
         uplink := rest, transmitter := .sending f ([0xA5] ++ core ++ halfBytes (crc16 core)) }) ∧
     (∀ ready, ready = false ∨ s.uplink = [] ∨ s.transmitter ≠ .fill → exec (.transmitStart ready) s = .next s) ∧
     ∀ f bytes, s.transmitter = .sending f bytes →
       exec .transmitEnd s = .next { s with transmitter := .fill, lastSent := some f }) ∧
  (∀ s : State, s.resetnLow = false →
    exec .resetnAsserted s = .next { s with resetnLow := true, transmitter := .held }) ∧
  ∀ (i : Instr) (s : State), s.resetnLow = true → (∀ straps, i ≠ .powerOnReset straps) → exec i s = .next s

/-! ## Invariants -/

/-- The Rider Table stays sound at every step: every entry in the bucket of its key, no key twice, no key 0, allowance and
bikes-out in range, every sequence window within 15 of its top. -/
def Obligations.RiderTableStaysSound : Prop :=
  ∀ s t : State, RiderTableSound s → step s = .next t → RiderTableSound t

/-- Records, docks and riders stay in step at every step: a dock is CHECKING, OPENING or OPEN exactly when one record names it,
in the matching state; numbers and docks of records are distinct; a dock is UNPOLLED exactly when it is not polled; the rider
of a counted record has an entry. -/
def Obligations.ReleasesStaySound : Prop :=
  ∀ s t : State, ReleasesSound s → step s = .next t → ReleasesSound t

/-- Every count stays in its range, the Block List in order, the loader, the batch slot, the deframer and both String Masters
sound, and the two conditions, ONLINE and a valid epoch, in step with their timers, at every step. -/
def Obligations.BlocksStaySound : Prop :=
  (∀ s t : State, CountsBounded s → step s = .next t → CountsBounded t) ∧
  (∀ s t : State, BlockListOrdered s → step s = .next t → BlockListOrdered t) ∧
  (∀ s t : State, LoadsSound s → step s = .next t → LoadsSound t) ∧
  (∀ s t : State, StringsSound s → step s = .next t → StringsSound t) ∧
  (∀ s t : State, ConditionSound s → step s = .next t → ConditionSound t) ∧
  ∀ s t : State, DeframerSound s → step s = .next t → DeframerSound t
end

