-- ==== Sys2Proof/Laws/State.lean ====
section
/-! SUPPORT. The small lemmas of the state: what each named update leaves of each field. -/

namespace Sys2Proof.Machine

/-! ## What an update with cases keeps: a reading that the fields it writes do not enter -/

variable {α : Type} (g : State → α)

theorem offer_keeps (hu : ∀ s u, g { s with uplink := u } = g s) (hd : ∀ s n, g { s with drops := n } = g s) (s : State)
    (f : Uplink) : g (s.offer f) = g s := by
  unfold State.offer
  split
  · exact hu _ _
  · exact hd _ _

theorem setStr_keeps (ha : ∀ s x, g { s with stringA := x } = g s) (hb : ∀ s x, g { s with stringB := x } = g s) (s : State)
    (m : StringId) (x : StringMaster) : g (s.setStr m x) = g s := by
  cases m
  · exact ha _ _
  · exact hb _ _

variable (hr : ∀ s v, g { s with riders := v } = g s)
include hr

theorem modRider_keeps (s : State) (k : Key) (f : RiderEntry → RiderEntry) : g (s.modRider k f) = g s := by
  unfold State.modRider
  split
  · rfl
  · exact hr _ _

theorem dropRider_keeps (s : State) (k : Key) : g (s.dropRider k) = g s := by
  unfold State.dropRider
  split
  · rfl
  · exact hr _ _

theorem dropTest_keeps (s : State) (k : Option Key) : g (s.dropTest k) = g s := by
  unfold State.dropTest
  split
  · rfl
  · split
    · split
      · exact dropRider_keeps g hr _ _
      · rfl
    · rfl

theorem refundFor_keeps (s : State) (r : Record) : g (s.refundFor r) = g s := by
  unfold State.refundFor
  split
  · rfl
  · exact modRider_keeps g hr _ _ _

omit hr

/-! ## offer -/

@[simp] theorem offer_resetnLow (s : State) (f : Uplink) : (s.offer f).resetnLow = s.resetnLow :=
  offer_keeps State.resetnLow (fun _ _ => rfl) (fun _ _ => rfl) s f
@[simp] theorem offer_stationCode (s : State) (f : Uplink) : (s.offer f).stationCode = s.stationCode :=
  offer_keeps State.stationCode (fun _ _ => rfl) (fun _ _ => rfl) s f
@[simp] theorem offer_deframer (s : State) (f : Uplink) : (s.offer f).deframer = s.deframer :=
  offer_keeps State.deframer (fun _ _ => rfl) (fun _ _ => rfl) s f
@[simp] theorem offer_transmitter (s : State) (f : Uplink) : (s.offer f).transmitter = s.transmitter :=
  offer_keeps State.transmitter (fun _ _ => rfl) (fun _ _ => rfl) s f
@[simp] theorem offer_lastSent (s : State) (f : Uplink) : (s.offer f).lastSent = s.lastSent :=
  offer_keeps State.lastSent (fun _ _ => rfl) (fun _ _ => rfl) s f
@[simp] theorem offer_badFrames (s : State) (f : Uplink) : (s.offer f).badFrames = s.badFrames :=
  offer_keeps State.badFrames (fun _ _ => rfl) (fun _ _ => rfl) s f
@[simp] theorem offer_foreignFrames (s : State) (f : Uplink) : (s.offer f).foreignFrames = s.foreignFrames :=
  offer_keeps State.foreignFrames (fun _ _ => rfl) (fun _ _ => rfl) s f
@[simp] theorem offer_presence (s : State) (f : Uplink) : (s.offer f).presence = s.presence :=
  offer_keeps State.presence (fun _ _ => rfl) (fun _ _ => rfl) s f
@[simp] theorem offer_condition (s : State) (f : Uplink) : (s.offer f).condition = s.condition :=
  offer_keeps State.condition (fun _ _ => rfl) (fun _ _ => rfl) s f
@[simp] theorem offer_islandedTime (s : State) (f : Uplink) : (s.offer f).islandedTime = s.islandedTime :=
  offer_keeps State.islandedTime (fun _ _ => rfl) (fun _ _ => rfl) s f
@[simp] theorem offer_islandedGrants (s : State) (f : Uplink) : (s.offer f).islandedGrants = s.islandedGrants :=
  offer_keeps State.islandedGrants (fun _ _ => rfl) (fun _ _ => rfl) s f
@[simp] theorem offer_epochValid (s : State) (f : Uplink) : (s.offer f).epochValid = s.epochValid :=
  offer_keeps State.epochValid (fun _ _ => rfl) (fun _ _ => rfl) s f
@[simp] theorem offer_epoch (s : State) (f : Uplink) : (s.offer f).epoch = s.epoch :=
  offer_keeps State.epoch (fun _ _ => rfl) (fun _ _ => rfl) s f
@[simp] theorem offer_epochTimer (s : State) (f : Uplink) : (s.offer f).epochTimer = s.epochTimer :=
  offer_keeps State.epochTimer (fun _ _ => rfl) (fun _ _ => rfl) s f
@[simp] theorem offer_behindMarks (s : State) (f : Uplink) : (s.offer f).behindMarks = s.behindMarks :=
  offer_keeps State.behindMarks (fun _ _ => rfl) (fun _ _ => rfl) s f
@[simp] theorem offer_loader (s : State) (f : Uplink) : (s.offer f).loader = s.loader :=
  offer_keeps State.loader (fun _ _ => rfl) (fun _ _ => rfl) s f
@[simp] theorem offer_batch (s : State) (f : Uplink) : (s.offer f).batch = s.batch :=
  offer_keeps State.batch (fun _ _ => rfl) (fun _ _ => rfl) s f
@[simp] theorem offer_stringA (s : State) (f : Uplink) : (s.offer f).stringA = s.stringA :=
  offer_keeps State.stringA (fun _ _ => rfl) (fun _ _ => rfl) s f
@[simp] theorem offer_stringB (s : State) (f : Uplink) : (s.offer f).stringB = s.stringB :=
  offer_keeps State.stringB (fun _ _ => rfl) (fun _ _ => rfl) s f
@[simp] theorem offer_params (s : State) (f : Uplink) : (s.offer f).params = s.params :=
  offer_keeps State.params (fun _ _ => rfl) (fun _ _ => rfl) s f
@[simp] theorem offer_descs (s : State) (f : Uplink) : (s.offer f).descs = s.descs :=
  offer_keeps State.descs (fun _ _ => rfl) (fun _ _ => rfl) s f
@[simp] theorem offer_ctxs (s : State) (f : Uplink) : (s.offer f).ctxs = s.ctxs :=
  offer_keeps State.ctxs (fun _ _ => rfl) (fun _ _ => rfl) s f
@[simp] theorem offer_classes (s : State) (f : Uplink) : (s.offer f).classes = s.classes :=
  offer_keeps State.classes (fun _ _ => rfl) (fun _ _ => rfl) s f
@[simp] theorem offer_keys (s : State) (f : Uplink) : (s.offer f).keys = s.keys :=
  offer_keeps State.keys (fun _ _ => rfl) (fun _ _ => rfl) s f
@[simp] theorem offer_riders (s : State) (f : Uplink) : (s.offer f).riders = s.riders :=
  offer_keeps State.riders (fun _ _ => rfl) (fun _ _ => rfl) s f
@[simp] theorem offer_closeMismatch (s : State) (f : Uplink) : (s.offer f).closeMismatch = s.closeMismatch :=
  offer_keeps State.closeMismatch (fun _ _ => rfl) (fun _ _ => rfl) s f
@[simp] theorem offer_blocks (s : State) (f : Uplink) : (s.offer f).blocks = s.blocks :=
  offer_keeps State.blocks (fun _ _ => rfl) (fun _ _ => rfl) s f
@[simp] theorem offer_records (s : State) (f : Uplink) : (s.offer f).records = s.records :=
  offer_keeps State.records (fun _ _ => rfl) (fun _ _ => rfl) s f
@[simp] theorem offer_nextNumber (s : State) (f : Uplink) : (s.offer f).nextNumber = s.nextNumber :=
  offer_keeps State.nextNumber (fun _ _ => rfl) (fun _ _ => rfl) s f
@[simp] theorem offer_pending (s : State) (f : Uplink) : (s.offer f).pending = s.pending :=
  offer_keeps State.pending (fun _ _ => rfl) (fun _ _ => rfl) s f

/-! ## countBad -/

@[simp] theorem countBad_resetnLow (s : State) : (s.countBad).resetnLow = s.resetnLow := rfl
@[simp] theorem countBad_stationCode (s : State) : (s.countBad).stationCode = s.stationCode := rfl
@[simp] theorem countBad_deframer (s : State) : (s.countBad).deframer = s.deframer := rfl
@[simp] theorem countBad_uplink (s : State) : (s.countBad).uplink = s.uplink := rfl
@[simp] theorem countBad_transmitter (s : State) : (s.countBad).transmitter = s.transmitter := rfl
@[simp] theorem countBad_lastSent (s : State) : (s.countBad).lastSent = s.lastSent := rfl
@[simp] theorem countBad_foreignFrames (s : State) : (s.countBad).foreignFrames = s.foreignFrames := rfl
@[simp] theorem countBad_drops (s : State) : (s.countBad).drops = s.drops := rfl
@[simp] theorem countBad_presence (s : State) : (s.countBad).presence = s.presence := rfl
@[simp] theorem countBad_condition (s : State) : (s.countBad).condition = s.condition := rfl
@[simp] theorem countBad_islandedTime (s : State) : (s.countBad).islandedTime = s.islandedTime := rfl
@[simp] theorem countBad_islandedGrants (s : State) : (s.countBad).islandedGrants = s.islandedGrants := rfl
@[simp] theorem countBad_epochValid (s : State) : (s.countBad).epochValid = s.epochValid := rfl
@[simp] theorem countBad_epoch (s : State) : (s.countBad).epoch = s.epoch := rfl
@[simp] theorem countBad_epochTimer (s : State) : (s.countBad).epochTimer = s.epochTimer := rfl
@[simp] theorem countBad_behindMarks (s : State) : (s.countBad).behindMarks = s.behindMarks := rfl
@[simp] theorem countBad_loader (s : State) : (s.countBad).loader = s.loader := rfl
@[simp] theorem countBad_batch (s : State) : (s.countBad).batch = s.batch := rfl
@[simp] theorem countBad_stringA (s : State) : (s.countBad).stringA = s.stringA := rfl
@[simp] theorem countBad_stringB (s : State) : (s.countBad).stringB = s.stringB := rfl
@[simp] theorem countBad_params (s : State) : (s.countBad).params = s.params := rfl
@[simp] theorem countBad_descs (s : State) : (s.countBad).descs = s.descs := rfl
@[simp] theorem countBad_ctxs (s : State) : (s.countBad).ctxs = s.ctxs := rfl
@[simp] theorem countBad_classes (s : State) : (s.countBad).classes = s.classes := rfl
@[simp] theorem countBad_keys (s : State) : (s.countBad).keys = s.keys := rfl
@[simp] theorem countBad_riders (s : State) : (s.countBad).riders = s.riders := rfl
@[simp] theorem countBad_closeMismatch (s : State) : (s.countBad).closeMismatch = s.closeMismatch := rfl
@[simp] theorem countBad_blocks (s : State) : (s.countBad).blocks = s.blocks := rfl
@[simp] theorem countBad_records (s : State) : (s.countBad).records = s.records := rfl
@[simp] theorem countBad_nextNumber (s : State) : (s.countBad).nextNumber = s.nextNumber := rfl
@[simp] theorem countBad_pending (s : State) : (s.countBad).pending = s.pending := rfl

/-! ## countForeign -/

@[simp] theorem countForeign_resetnLow (s : State) : (s.countForeign).resetnLow = s.resetnLow := rfl
@[simp] theorem countForeign_stationCode (s : State) : (s.countForeign).stationCode = s.stationCode := rfl
@[simp] theorem countForeign_deframer (s : State) : (s.countForeign).deframer = s.deframer := rfl
@[simp] theorem countForeign_uplink (s : State) : (s.countForeign).uplink = s.uplink := rfl
@[simp] theorem countForeign_transmitter (s : State) : (s.countForeign).transmitter = s.transmitter := rfl
@[simp] theorem countForeign_lastSent (s : State) : (s.countForeign).lastSent = s.lastSent := rfl
@[simp] theorem countForeign_badFrames (s : State) : (s.countForeign).badFrames = s.badFrames := rfl
@[simp] theorem countForeign_drops (s : State) : (s.countForeign).drops = s.drops := rfl
@[simp] theorem countForeign_presence (s : State) : (s.countForeign).presence = s.presence := rfl
@[simp] theorem countForeign_condition (s : State) : (s.countForeign).condition = s.condition := rfl
@[simp] theorem countForeign_islandedTime (s : State) : (s.countForeign).islandedTime = s.islandedTime := rfl
@[simp] theorem countForeign_islandedGrants (s : State) : (s.countForeign).islandedGrants = s.islandedGrants := rfl
@[simp] theorem countForeign_epochValid (s : State) : (s.countForeign).epochValid = s.epochValid := rfl
@[simp] theorem countForeign_epoch (s : State) : (s.countForeign).epoch = s.epoch := rfl
@[simp] theorem countForeign_epochTimer (s : State) : (s.countForeign).epochTimer = s.epochTimer := rfl
@[simp] theorem countForeign_behindMarks (s : State) : (s.countForeign).behindMarks = s.behindMarks := rfl
@[simp] theorem countForeign_loader (s : State) : (s.countForeign).loader = s.loader := rfl
@[simp] theorem countForeign_batch (s : State) : (s.countForeign).batch = s.batch := rfl
@[simp] theorem countForeign_stringA (s : State) : (s.countForeign).stringA = s.stringA := rfl
@[simp] theorem countForeign_stringB (s : State) : (s.countForeign).stringB = s.stringB := rfl
@[simp] theorem countForeign_params (s : State) : (s.countForeign).params = s.params := rfl
@[simp] theorem countForeign_descs (s : State) : (s.countForeign).descs = s.descs := rfl
@[simp] theorem countForeign_ctxs (s : State) : (s.countForeign).ctxs = s.ctxs := rfl
@[simp] theorem countForeign_classes (s : State) : (s.countForeign).classes = s.classes := rfl
@[simp] theorem countForeign_keys (s : State) : (s.countForeign).keys = s.keys := rfl
@[simp] theorem countForeign_riders (s : State) : (s.countForeign).riders = s.riders := rfl
@[simp] theorem countForeign_closeMismatch (s : State) : (s.countForeign).closeMismatch = s.closeMismatch := rfl
@[simp] theorem countForeign_blocks (s : State) : (s.countForeign).blocks = s.blocks := rfl
@[simp] theorem countForeign_records (s : State) : (s.countForeign).records = s.records := rfl
@[simp] theorem countForeign_nextNumber (s : State) : (s.countForeign).nextNumber = s.nextNumber := rfl
@[simp] theorem countForeign_pending (s : State) : (s.countForeign).pending = s.pending := rfl

/-! ## modCtx -/

@[simp] theorem modCtx_resetnLow (s : State) (d : DockNo) (f : DockContext → DockContext) : (s.modCtx d f).resetnLow = s.resetnLow := rfl
@[simp] theorem modCtx_stationCode (s : State) (d : DockNo) (f : DockContext → DockContext) : (s.modCtx d f).stationCode = s.stationCode := rfl
@[simp] theorem modCtx_deframer (s : State) (d : DockNo) (f : DockContext → DockContext) : (s.modCtx d f).deframer = s.deframer := rfl
@[simp] theorem modCtx_uplink (s : State) (d : DockNo) (f : DockContext → DockContext) : (s.modCtx d f).uplink = s.uplink := rfl
@[simp] theorem modCtx_transmitter (s : State) (d : DockNo) (f : DockContext → DockContext) : (s.modCtx d f).transmitter = s.transmitter := rfl
@[simp] theorem modCtx_lastSent (s : State) (d : DockNo) (f : DockContext → DockContext) : (s.modCtx d f).lastSent = s.lastSent := rfl
@[simp] theorem modCtx_badFrames (s : State) (d : DockNo) (f : DockContext → DockContext) : (s.modCtx d f).badFrames = s.badFrames := rfl
@[simp] theorem modCtx_foreignFrames (s : State) (d : DockNo) (f : DockContext → DockContext) : (s.modCtx d f).foreignFrames = s.foreignFrames := rfl
@[simp] theorem modCtx_drops (s : State) (d : DockNo) (f : DockContext → DockContext) : (s.modCtx d f).drops = s.drops := rfl
@[simp] theorem modCtx_presence (s : State) (d : DockNo) (f : DockContext → DockContext) : (s.modCtx d f).presence = s.presence := rfl
@[simp] theorem modCtx_condition (s : State) (d : DockNo) (f : DockContext → DockContext) : (s.modCtx d f).condition = s.condition := rfl
@[simp] theorem modCtx_islandedTime (s : State) (d : DockNo) (f : DockContext → DockContext) : (s.modCtx d f).islandedTime = s.islandedTime := rfl
@[simp] theorem modCtx_islandedGrants (s : State) (d : DockNo) (f : DockContext → DockContext) : (s.modCtx d f).islandedGrants = s.islandedGrants := rfl
@[simp] theorem modCtx_epochValid (s : State) (d : DockNo) (f : DockContext → DockContext) : (s.modCtx d f).epochValid = s.epochValid := rfl
@[simp] theorem modCtx_epoch (s : State) (d : DockNo) (f : DockContext → DockContext) : (s.modCtx d f).epoch = s.epoch := rfl
@[simp] theorem modCtx_epochTimer (s : State) (d : DockNo) (f : DockContext → DockContext) : (s.modCtx d f).epochTimer = s.epochTimer := rfl
@[simp] theorem modCtx_behindMarks (s : State) (d : DockNo) (f : DockContext → DockContext) : (s.modCtx d f).behindMarks = s.behindMarks := rfl
@[simp] theorem modCtx_loader (s : State) (d : DockNo) (f : DockContext → DockContext) : (s.modCtx d f).loader = s.loader := rfl
@[simp] theorem modCtx_batch (s : State) (d : DockNo) (f : DockContext → DockContext) : (s.modCtx d f).batch = s.batch := rfl
@[simp] theorem modCtx_stringA (s : State) (d : DockNo) (f : DockContext → DockContext) : (s.modCtx d f).stringA = s.stringA := rfl
@[simp] theorem modCtx_stringB (s : State) (d : DockNo) (f : DockContext → DockContext) : (s.modCtx d f).stringB = s.stringB := rfl
@[simp] theorem modCtx_params (s : State) (d : DockNo) (f : DockContext → DockContext) : (s.modCtx d f).params = s.params := rfl
@[simp] theorem modCtx_descs (s : State) (d : DockNo) (f : DockContext → DockContext) : (s.modCtx d f).descs = s.descs := rfl
@[simp] theorem modCtx_classes (s : State) (d : DockNo) (f : DockContext → DockContext) : (s.modCtx d f).classes = s.classes := rfl
@[simp] theorem modCtx_keys (s : State) (d : DockNo) (f : DockContext → DockContext) : (s.modCtx d f).keys = s.keys := rfl
@[simp] theorem modCtx_riders (s : State) (d : DockNo) (f : DockContext → DockContext) : (s.modCtx d f).riders = s.riders := rfl
@[simp] theorem modCtx_closeMismatch (s : State) (d : DockNo) (f : DockContext → DockContext) : (s.modCtx d f).closeMismatch = s.closeMismatch := rfl
@[simp] theorem modCtx_blocks (s : State) (d : DockNo) (f : DockContext → DockContext) : (s.modCtx d f).blocks = s.blocks := rfl
@[simp] theorem modCtx_records (s : State) (d : DockNo) (f : DockContext → DockContext) : (s.modCtx d f).records = s.records := rfl
@[simp] theorem modCtx_nextNumber (s : State) (d : DockNo) (f : DockContext → DockContext) : (s.modCtx d f).nextNumber = s.nextNumber := rfl
@[simp] theorem modCtx_pending (s : State) (d : DockNo) (f : DockContext → DockContext) : (s.modCtx d f).pending = s.pending := rfl

/-! ## mapCtxs -/

@[simp] theorem mapCtxs_resetnLow (s : State) (f : DockNo → DockContext → DockContext) : (s.mapCtxs f).resetnLow = s.resetnLow := rfl
@[simp] theorem mapCtxs_stationCode (s : State) (f : DockNo → DockContext → DockContext) : (s.mapCtxs f).stationCode = s.stationCode := rfl
@[simp] theorem mapCtxs_deframer (s : State) (f : DockNo → DockContext → DockContext) : (s.mapCtxs f).deframer = s.deframer := rfl
@[simp] theorem mapCtxs_uplink (s : State) (f : DockNo → DockContext → DockContext) : (s.mapCtxs f).uplink = s.uplink := rfl
@[simp] theorem mapCtxs_transmitter (s : State) (f : DockNo → DockContext → DockContext) : (s.mapCtxs f).transmitter = s.transmitter := rfl
@[simp] theorem mapCtxs_lastSent (s : State) (f : DockNo → DockContext → DockContext) : (s.mapCtxs f).lastSent = s.lastSent := rfl
@[simp] theorem mapCtxs_badFrames (s : State) (f : DockNo → DockContext → DockContext) : (s.mapCtxs f).badFrames = s.badFrames := rfl
@[simp] theorem mapCtxs_foreignFrames (s : State) (f : DockNo → DockContext → DockContext) : (s.mapCtxs f).foreignFrames = s.foreignFrames := rfl
@[simp] theorem mapCtxs_drops (s : State) (f : DockNo → DockContext → DockContext) : (s.mapCtxs f).drops = s.drops := rfl
@[simp] theorem mapCtxs_presence (s : State) (f : DockNo → DockContext → DockContext) : (s.mapCtxs f).presence = s.presence := rfl
@[simp] theorem mapCtxs_condition (s : State) (f : DockNo → DockContext → DockContext) : (s.mapCtxs f).condition = s.condition := rfl
@[simp] theorem mapCtxs_islandedTime (s : State) (f : DockNo → DockContext → DockContext) : (s.mapCtxs f).islandedTime = s.islandedTime := rfl
@[simp] theorem mapCtxs_islandedGrants (s : State) (f : DockNo → DockContext → DockContext) : (s.mapCtxs f).islandedGrants = s.islandedGrants := rfl
@[simp] theorem mapCtxs_epochValid (s : State) (f : DockNo → DockContext → DockContext) : (s.mapCtxs f).epochValid = s.epochValid := rfl
@[simp] theorem mapCtxs_epoch (s : State) (f : DockNo → DockContext → DockContext) : (s.mapCtxs f).epoch = s.epoch := rfl
@[simp] theorem mapCtxs_epochTimer (s : State) (f : DockNo → DockContext → DockContext) : (s.mapCtxs f).epochTimer = s.epochTimer := rfl
@[simp] theorem mapCtxs_behindMarks (s : State) (f : DockNo → DockContext → DockContext) : (s.mapCtxs f).behindMarks = s.behindMarks := rfl
@[simp] theorem mapCtxs_loader (s : State) (f : DockNo → DockContext → DockContext) : (s.mapCtxs f).loader = s.loader := rfl
@[simp] theorem mapCtxs_batch (s : State) (f : DockNo → DockContext → DockContext) : (s.mapCtxs f).batch = s.batch := rfl
@[simp] theorem mapCtxs_stringA (s : State) (f : DockNo → DockContext → DockContext) : (s.mapCtxs f).stringA = s.stringA := rfl
@[simp] theorem mapCtxs_stringB (s : State) (f : DockNo → DockContext → DockContext) : (s.mapCtxs f).stringB = s.stringB := rfl
@[simp] theorem mapCtxs_params (s : State) (f : DockNo → DockContext → DockContext) : (s.mapCtxs f).params = s.params := rfl
@[simp] theorem mapCtxs_descs (s : State) (f : DockNo → DockContext → DockContext) : (s.mapCtxs f).descs = s.descs := rfl
@[simp] theorem mapCtxs_classes (s : State) (f : DockNo → DockContext → DockContext) : (s.mapCtxs f).classes = s.classes := rfl
@[simp] theorem mapCtxs_keys (s : State) (f : DockNo → DockContext → DockContext) : (s.mapCtxs f).keys = s.keys := rfl
@[simp] theorem mapCtxs_riders (s : State) (f : DockNo → DockContext → DockContext) : (s.mapCtxs f).riders = s.riders := rfl
@[simp] theorem mapCtxs_closeMismatch (s : State) (f : DockNo → DockContext → DockContext) : (s.mapCtxs f).closeMismatch = s.closeMismatch := rfl
@[simp] theorem mapCtxs_blocks (s : State) (f : DockNo → DockContext → DockContext) : (s.mapCtxs f).blocks = s.blocks := rfl
@[simp] theorem mapCtxs_records (s : State) (f : DockNo → DockContext → DockContext) : (s.mapCtxs f).records = s.records := rfl
@[simp] theorem mapCtxs_nextNumber (s : State) (f : DockNo → DockContext → DockContext) : (s.mapCtxs f).nextNumber = s.nextNumber := rfl
@[simp] theorem mapCtxs_pending (s : State) (f : DockNo → DockContext → DockContext) : (s.mapCtxs f).pending = s.pending := rfl

/-! ## setStr -/

@[simp] theorem setStr_resetnLow (s : State) (m : StringId) (x : StringMaster) : (s.setStr m x).resetnLow = s.resetnLow :=
  setStr_keeps State.resetnLow (fun _ _ => rfl) (fun _ _ => rfl) s m x
@[simp] theorem setStr_stationCode (s : State) (m : StringId) (x : StringMaster) : (s.setStr m x).stationCode = s.stationCode :=
  setStr_keeps State.stationCode (fun _ _ => rfl) (fun _ _ => rfl) s m x
@[simp] theorem setStr_deframer (s : State) (m : StringId) (x : StringMaster) : (s.setStr m x).deframer = s.deframer :=
  setStr_keeps State.deframer (fun _ _ => rfl) (fun _ _ => rfl) s m x
@[simp] theorem setStr_uplink (s : State) (m : StringId) (x : StringMaster) : (s.setStr m x).uplink = s.uplink :=
  setStr_keeps State.uplink (fun _ _ => rfl) (fun _ _ => rfl) s m x
@[simp] theorem setStr_transmitter (s : State) (m : StringId) (x : StringMaster) : (s.setStr m x).transmitter = s.transmitter :=
  setStr_keeps State.transmitter (fun _ _ => rfl) (fun _ _ => rfl) s m x
@[simp] theorem setStr_lastSent (s : State) (m : StringId) (x : StringMaster) : (s.setStr m x).lastSent = s.lastSent :=
  setStr_keeps State.lastSent (fun _ _ => rfl) (fun _ _ => rfl) s m x
@[simp] theorem setStr_badFrames (s : State) (m : StringId) (x : StringMaster) : (s.setStr m x).badFrames = s.badFrames :=
  setStr_keeps State.badFrames (fun _ _ => rfl) (fun _ _ => rfl) s m x
@[simp] theorem setStr_foreignFrames (s : State) (m : StringId) (x : StringMaster) : (s.setStr m x).foreignFrames = s.foreignFrames :=
  setStr_keeps State.foreignFrames (fun _ _ => rfl) (fun _ _ => rfl) s m x
@[simp] theorem setStr_drops (s : State) (m : StringId) (x : StringMaster) : (s.setStr m x).drops = s.drops :=
  setStr_keeps State.drops (fun _ _ => rfl) (fun _ _ => rfl) s m x
@[simp] theorem setStr_presence (s : State) (m : StringId) (x : StringMaster) : (s.setStr m x).presence = s.presence :=
  setStr_keeps State.presence (fun _ _ => rfl) (fun _ _ => rfl) s m x
@[simp] theorem setStr_condition (s : State) (m : StringId) (x : StringMaster) : (s.setStr m x).condition = s.condition :=
  setStr_keeps State.condition (fun _ _ => rfl) (fun _ _ => rfl) s m x
@[simp] theorem setStr_islandedTime (s : State) (m : StringId) (x : StringMaster) : (s.setStr m x).islandedTime = s.islandedTime :=
  setStr_keeps State.islandedTime (fun _ _ => rfl) (fun _ _ => rfl) s m x
@[simp] theorem setStr_islandedGrants (s : State) (m : StringId) (x : StringMaster) : (s.setStr m x).islandedGrants = s.islandedGrants :=
  setStr_keeps State.islandedGrants (fun _ _ => rfl) (fun _ _ => rfl) s m x
@[simp] theorem setStr_epochValid (s : State) (m : StringId) (x : StringMaster) : (s.setStr m x).epochValid = s.epochValid :=
  setStr_keeps State.epochValid (fun _ _ => rfl) (fun _ _ => rfl) s m x
@[simp] theorem setStr_epoch (s : State) (m : StringId) (x : StringMaster) : (s.setStr m x).epoch = s.epoch :=
  setStr_keeps State.epoch (fun _ _ => rfl) (fun _ _ => rfl) s m x
@[simp] theorem setStr_epochTimer (s : State) (m : StringId) (x : StringMaster) : (s.setStr m x).epochTimer = s.epochTimer :=
  setStr_keeps State.epochTimer (fun _ _ => rfl) (fun _ _ => rfl) s m x
@[simp] theorem setStr_behindMarks (s : State) (m : StringId) (x : StringMaster) : (s.setStr m x).behindMarks = s.behindMarks :=
  setStr_keeps State.behindMarks (fun _ _ => rfl) (fun _ _ => rfl) s m x
@[simp] theorem setStr_loader (s : State) (m : StringId) (x : StringMaster) : (s.setStr m x).loader = s.loader :=
  setStr_keeps State.loader (fun _ _ => rfl) (fun _ _ => rfl) s m x
@[simp] theorem setStr_batch (s : State) (m : StringId) (x : StringMaster) : (s.setStr m x).batch = s.batch :=
  setStr_keeps State.batch (fun _ _ => rfl) (fun _ _ => rfl) s m x
@[simp] theorem setStr_params (s : State) (m : StringId) (x : StringMaster) : (s.setStr m x).params = s.params :=
  setStr_keeps State.params (fun _ _ => rfl) (fun _ _ => rfl) s m x
@[simp] theorem setStr_descs (s : State) (m : StringId) (x : StringMaster) : (s.setStr m x).descs = s.descs :=
  setStr_keeps State.descs (fun _ _ => rfl) (fun _ _ => rfl) s m x
@[simp] theorem setStr_ctxs (s : State) (m : StringId) (x : StringMaster) : (s.setStr m x).ctxs = s.ctxs :=
  setStr_keeps State.ctxs (fun _ _ => rfl) (fun _ _ => rfl) s m x
@[simp] theorem setStr_classes (s : State) (m : StringId) (x : StringMaster) : (s.setStr m x).classes = s.classes :=
  setStr_keeps State.classes (fun _ _ => rfl) (fun _ _ => rfl) s m x
@[simp] theorem setStr_keys (s : State) (m : StringId) (x : StringMaster) : (s.setStr m x).keys = s.keys :=
  setStr_keeps State.keys (fun _ _ => rfl) (fun _ _ => rfl) s m x
@[simp] theorem setStr_riders (s : State) (m : StringId) (x : StringMaster) : (s.setStr m x).riders = s.riders :=
  setStr_keeps State.riders (fun _ _ => rfl) (fun _ _ => rfl) s m x
@[simp] theorem setStr_closeMismatch (s : State) (m : StringId) (x : StringMaster) : (s.setStr m x).closeMismatch = s.closeMismatch :=
  setStr_keeps State.closeMismatch (fun _ _ => rfl) (fun _ _ => rfl) s m x
@[simp] theorem setStr_blocks (s : State) (m : StringId) (x : StringMaster) : (s.setStr m x).blocks = s.blocks :=
  setStr_keeps State.blocks (fun _ _ => rfl) (fun _ _ => rfl) s m x
@[simp] theorem setStr_records (s : State) (m : StringId) (x : StringMaster) : (s.setStr m x).records = s.records :=
  setStr_keeps State.records (fun _ _ => rfl) (fun _ _ => rfl) s m x
@[simp] theorem setStr_nextNumber (s : State) (m : StringId) (x : StringMaster) : (s.setStr m x).nextNumber = s.nextNumber :=
  setStr_keeps State.nextNumber (fun _ _ => rfl) (fun _ _ => rfl) s m x
@[simp] theorem setStr_pending (s : State) (m : StringId) (x : StringMaster) : (s.setStr m x).pending = s.pending :=
  setStr_keeps State.pending (fun _ _ => rfl) (fun _ _ => rfl) s m x

/-! ## setWay -/

@[simp] theorem setWay_resetnLow (s : State) (b : Fin 1024) (w : Fin 4) (x : Option RiderEntry) : (s.setWay b w x).resetnLow = s.resetnLow := rfl
@[simp] theorem setWay_stationCode (s : State) (b : Fin 1024) (w : Fin 4) (x : Option RiderEntry) : (s.setWay b w x).stationCode = s.stationCode := rfl
@[simp] theorem setWay_deframer (s : State) (b : Fin 1024) (w : Fin 4) (x : Option RiderEntry) : (s.setWay b w x).deframer = s.deframer := rfl
@[simp] theorem setWay_uplink (s : State) (b : Fin 1024) (w : Fin 4) (x : Option RiderEntry) : (s.setWay b w x).uplink = s.uplink := rfl
@[simp] theorem setWay_transmitter (s : State) (b : Fin 1024) (w : Fin 4) (x : Option RiderEntry) : (s.setWay b w x).transmitter = s.transmitter := rfl
@[simp] theorem setWay_lastSent (s : State) (b : Fin 1024) (w : Fin 4) (x : Option RiderEntry) : (s.setWay b w x).lastSent = s.lastSent := rfl
@[simp] theorem setWay_badFrames (s : State) (b : Fin 1024) (w : Fin 4) (x : Option RiderEntry) : (s.setWay b w x).badFrames = s.badFrames := rfl
@[simp] theorem setWay_foreignFrames (s : State) (b : Fin 1024) (w : Fin 4) (x : Option RiderEntry) : (s.setWay b w x).foreignFrames = s.foreignFrames := rfl
@[simp] theorem setWay_drops (s : State) (b : Fin 1024) (w : Fin 4) (x : Option RiderEntry) : (s.setWay b w x).drops = s.drops := rfl
@[simp] theorem setWay_presence (s : State) (b : Fin 1024) (w : Fin 4) (x : Option RiderEntry) : (s.setWay b w x).presence = s.presence := rfl
@[simp] theorem setWay_condition (s : State) (b : Fin 1024) (w : Fin 4) (x : Option RiderEntry) : (s.setWay b w x).condition = s.condition := rfl
@[simp] theorem setWay_islandedTime (s : State) (b : Fin 1024) (w : Fin 4) (x : Option RiderEntry) : (s.setWay b w x).islandedTime = s.islandedTime := rfl
@[simp] theorem setWay_islandedGrants (s : State) (b : Fin 1024) (w : Fin 4) (x : Option RiderEntry) : (s.setWay b w x).islandedGrants = s.islandedGrants := rfl
@[simp] theorem setWay_epochValid (s : State) (b : Fin 1024) (w : Fin 4) (x : Option RiderEntry) : (s.setWay b w x).epochValid = s.epochValid := rfl
@[simp] theorem setWay_epoch (s : State) (b : Fin 1024) (w : Fin 4) (x : Option RiderEntry) : (s.setWay b w x).epoch = s.epoch := rfl
@[simp] theorem setWay_epochTimer (s : State) (b : Fin 1024) (w : Fin 4) (x : Option RiderEntry) : (s.setWay b w x).epochTimer = s.epochTimer := rfl
@[simp] theorem setWay_behindMarks (s : State) (b : Fin 1024) (w : Fin 4) (x : Option RiderEntry) : (s.setWay b w x).behindMarks = s.behindMarks := rfl
@[simp] theorem setWay_loader (s : State) (b : Fin 1024) (w : Fin 4) (x : Option RiderEntry) : (s.setWay b w x).loader = s.loader := rfl
@[simp] theorem setWay_batch (s : State) (b : Fin 1024) (w : Fin 4) (x : Option RiderEntry) : (s.setWay b w x).batch = s.batch := rfl
@[simp] theorem setWay_stringA (s : State) (b : Fin 1024) (w : Fin 4) (x : Option RiderEntry) : (s.setWay b w x).stringA = s.stringA := rfl
@[simp] theorem setWay_stringB (s : State) (b : Fin 1024) (w : Fin 4) (x : Option RiderEntry) : (s.setWay b w x).stringB = s.stringB := rfl
@[simp] theorem setWay_params (s : State) (b : Fin 1024) (w : Fin 4) (x : Option RiderEntry) : (s.setWay b w x).params = s.params := rfl
@[simp] theorem setWay_descs (s : State) (b : Fin 1024) (w : Fin 4) (x : Option RiderEntry) : (s.setWay b w x).descs = s.descs := rfl
@[simp] theorem setWay_ctxs (s : State) (b : Fin 1024) (w : Fin 4) (x : Option RiderEntry) : (s.setWay b w x).ctxs = s.ctxs := rfl
@[simp] theorem setWay_classes (s : State) (b : Fin 1024) (w : Fin 4) (x : Option RiderEntry) : (s.setWay b w x).classes = s.classes := rfl
@[simp] theorem setWay_keys (s : State) (b : Fin 1024) (w : Fin 4) (x : Option RiderEntry) : (s.setWay b w x).keys = s.keys := rfl
@[simp] theorem setWay_closeMismatch (s : State) (b : Fin 1024) (w : Fin 4) (x : Option RiderEntry) : (s.setWay b w x).closeMismatch = s.closeMismatch := rfl
@[simp] theorem setWay_blocks (s : State) (b : Fin 1024) (w : Fin 4) (x : Option RiderEntry) : (s.setWay b w x).blocks = s.blocks := rfl
@[simp] theorem setWay_records (s : State) (b : Fin 1024) (w : Fin 4) (x : Option RiderEntry) : (s.setWay b w x).records = s.records := rfl
@[simp] theorem setWay_nextNumber (s : State) (b : Fin 1024) (w : Fin 4) (x : Option RiderEntry) : (s.setWay b w x).nextNumber = s.nextNumber := rfl
@[simp] theorem setWay_pending (s : State) (b : Fin 1024) (w : Fin 4) (x : Option RiderEntry) : (s.setWay b w x).pending = s.pending := rfl

/-! ## modRider -/

@[simp] theorem modRider_resetnLow (s : State) (k : Key) (f : RiderEntry → RiderEntry) : (s.modRider k f).resetnLow = s.resetnLow :=
  modRider_keeps State.resetnLow (fun _ _ => rfl) s k f
@[simp] theorem modRider_stationCode (s : State) (k : Key) (f : RiderEntry → RiderEntry) : (s.modRider k f).stationCode = s.stationCode :=
  modRider_keeps State.stationCode (fun _ _ => rfl) s k f
@[simp] theorem modRider_deframer (s : State) (k : Key) (f : RiderEntry → RiderEntry) : (s.modRider k f).deframer = s.deframer :=
  modRider_keeps State.deframer (fun _ _ => rfl) s k f
@[simp] theorem modRider_uplink (s : State) (k : Key) (f : RiderEntry → RiderEntry) : (s.modRider k f).uplink = s.uplink :=
  modRider_keeps State.uplink (fun _ _ => rfl) s k f
@[simp] theorem modRider_transmitter (s : State) (k : Key) (f : RiderEntry → RiderEntry) : (s.modRider k f).transmitter = s.transmitter :=
  modRider_keeps State.transmitter (fun _ _ => rfl) s k f
@[simp] theorem modRider_lastSent (s : State) (k : Key) (f : RiderEntry → RiderEntry) : (s.modRider k f).lastSent = s.lastSent :=
  modRider_keeps State.lastSent (fun _ _ => rfl) s k f
@[simp] theorem modRider_badFrames (s : State) (k : Key) (f : RiderEntry → RiderEntry) : (s.modRider k f).badFrames = s.badFrames :=
  modRider_keeps State.badFrames (fun _ _ => rfl) s k f
@[simp] theorem modRider_foreignFrames (s : State) (k : Key) (f : RiderEntry → RiderEntry) : (s.modRider k f).foreignFrames = s.foreignFrames :=
  modRider_keeps State.foreignFrames (fun _ _ => rfl) s k f
@[simp] theorem modRider_drops (s : State) (k : Key) (f : RiderEntry → RiderEntry) : (s.modRider k f).drops = s.drops :=
  modRider_keeps State.drops (fun _ _ => rfl) s k f
@[simp] theorem modRider_presence (s : State) (k : Key) (f : RiderEntry → RiderEntry) : (s.modRider k f).presence = s.presence :=
  modRider_keeps State.presence (fun _ _ => rfl) s k f
@[simp] theorem modRider_condition (s : State) (k : Key) (f : RiderEntry → RiderEntry) : (s.modRider k f).condition = s.condition :=
  modRider_keeps State.condition (fun _ _ => rfl) s k f
@[simp] theorem modRider_islandedTime (s : State) (k : Key) (f : RiderEntry → RiderEntry) : (s.modRider k f).islandedTime = s.islandedTime :=
  modRider_keeps State.islandedTime (fun _ _ => rfl) s k f
@[simp] theorem modRider_islandedGrants (s : State) (k : Key) (f : RiderEntry → RiderEntry) : (s.modRider k f).islandedGrants = s.islandedGrants :=
  modRider_keeps State.islandedGrants (fun _ _ => rfl) s k f
@[simp] theorem modRider_epochValid (s : State) (k : Key) (f : RiderEntry → RiderEntry) : (s.modRider k f).epochValid = s.epochValid :=
  modRider_keeps State.epochValid (fun _ _ => rfl) s k f
@[simp] theorem modRider_epoch (s : State) (k : Key) (f : RiderEntry → RiderEntry) : (s.modRider k f).epoch = s.epoch :=
  modRider_keeps State.epoch (fun _ _ => rfl) s k f
@[simp] theorem modRider_epochTimer (s : State) (k : Key) (f : RiderEntry → RiderEntry) : (s.modRider k f).epochTimer = s.epochTimer :=
  modRider_keeps State.epochTimer (fun _ _ => rfl) s k f
@[simp] theorem modRider_behindMarks (s : State) (k : Key) (f : RiderEntry → RiderEntry) : (s.modRider k f).behindMarks = s.behindMarks :=
  modRider_keeps State.behindMarks (fun _ _ => rfl) s k f
@[simp] theorem modRider_loader (s : State) (k : Key) (f : RiderEntry → RiderEntry) : (s.modRider k f).loader = s.loader :=
  modRider_keeps State.loader (fun _ _ => rfl) s k f
@[simp] theorem modRider_batch (s : State) (k : Key) (f : RiderEntry → RiderEntry) : (s.modRider k f).batch = s.batch :=
  modRider_keeps State.batch (fun _ _ => rfl) s k f
@[simp] theorem modRider_stringA (s : State) (k : Key) (f : RiderEntry → RiderEntry) : (s.modRider k f).stringA = s.stringA :=
  modRider_keeps State.stringA (fun _ _ => rfl) s k f
@[simp] theorem modRider_stringB (s : State) (k : Key) (f : RiderEntry → RiderEntry) : (s.modRider k f).stringB = s.stringB :=
  modRider_keeps State.stringB (fun _ _ => rfl) s k f
@[simp] theorem modRider_params (s : State) (k : Key) (f : RiderEntry → RiderEntry) : (s.modRider k f).params = s.params :=
  modRider_keeps State.params (fun _ _ => rfl) s k f
@[simp] theorem modRider_descs (s : State) (k : Key) (f : RiderEntry → RiderEntry) : (s.modRider k f).descs = s.descs :=
  modRider_keeps State.descs (fun _ _ => rfl) s k f
@[simp] theorem modRider_ctxs (s : State) (k : Key) (f : RiderEntry → RiderEntry) : (s.modRider k f).ctxs = s.ctxs :=
  modRider_keeps State.ctxs (fun _ _ => rfl) s k f
@[simp] theorem modRider_classes (s : State) (k : Key) (f : RiderEntry → RiderEntry) : (s.modRider k f).classes = s.classes :=
  modRider_keeps State.classes (fun _ _ => rfl) s k f
@[simp] theorem modRider_keys (s : State) (k : Key) (f : RiderEntry → RiderEntry) : (s.modRider k f).keys = s.keys :=
  modRider_keeps State.keys (fun _ _ => rfl) s k f
@[simp] theorem modRider_closeMismatch (s : State) (k : Key) (f : RiderEntry → RiderEntry) : (s.modRider k f).closeMismatch = s.closeMismatch :=
  modRider_keeps State.closeMismatch (fun _ _ => rfl) s k f
@[simp] theorem modRider_blocks (s : State) (k : Key) (f : RiderEntry → RiderEntry) : (s.modRider k f).blocks = s.blocks :=
  modRider_keeps State.blocks (fun _ _ => rfl) s k f
@[simp] theorem modRider_records (s : State) (k : Key) (f : RiderEntry → RiderEntry) : (s.modRider k f).records = s.records :=
  modRider_keeps State.records (fun _ _ => rfl) s k f
@[simp] theorem modRider_nextNumber (s : State) (k : Key) (f : RiderEntry → RiderEntry) : (s.modRider k f).nextNumber = s.nextNumber :=
  modRider_keeps State.nextNumber (fun _ _ => rfl) s k f
@[simp] theorem modRider_pending (s : State) (k : Key) (f : RiderEntry → RiderEntry) : (s.modRider k f).pending = s.pending :=
  modRider_keeps State.pending (fun _ _ => rfl) s k f

/-! ## dropRider -/

@[simp] theorem dropRider_resetnLow (s : State) (k : Key) : (s.dropRider k).resetnLow = s.resetnLow :=
  dropRider_keeps State.resetnLow (fun _ _ => rfl) s k
@[simp] theorem dropRider_stationCode (s : State) (k : Key) : (s.dropRider k).stationCode = s.stationCode :=
  dropRider_keeps State.stationCode (fun _ _ => rfl) s k
@[simp] theorem dropRider_deframer (s : State) (k : Key) : (s.dropRider k).deframer = s.deframer :=
  dropRider_keeps State.deframer (fun _ _ => rfl) s k
@[simp] theorem dropRider_uplink (s : State) (k : Key) : (s.dropRider k).uplink = s.uplink :=
  dropRider_keeps State.uplink (fun _ _ => rfl) s k
@[simp] theorem dropRider_transmitter (s : State) (k : Key) : (s.dropRider k).transmitter = s.transmitter :=
  dropRider_keeps State.transmitter (fun _ _ => rfl) s k
@[simp] theorem dropRider_lastSent (s : State) (k : Key) : (s.dropRider k).lastSent = s.lastSent :=
  dropRider_keeps State.lastSent (fun _ _ => rfl) s k
@[simp] theorem dropRider_badFrames (s : State) (k : Key) : (s.dropRider k).badFrames = s.badFrames :=
  dropRider_keeps State.badFrames (fun _ _ => rfl) s k
@[simp] theorem dropRider_foreignFrames (s : State) (k : Key) : (s.dropRider k).foreignFrames = s.foreignFrames :=
  dropRider_keeps State.foreignFrames (fun _ _ => rfl) s k
@[simp] theorem dropRider_drops (s : State) (k : Key) : (s.dropRider k).drops = s.drops :=
  dropRider_keeps State.drops (fun _ _ => rfl) s k
@[simp] theorem dropRider_presence (s : State) (k : Key) : (s.dropRider k).presence = s.presence :=
  dropRider_keeps State.presence (fun _ _ => rfl) s k
@[simp] theorem dropRider_condition (s : State) (k : Key) : (s.dropRider k).condition = s.condition :=
  dropRider_keeps State.condition (fun _ _ => rfl) s k
@[simp] theorem dropRider_islandedTime (s : State) (k : Key) : (s.dropRider k).islandedTime = s.islandedTime :=
  dropRider_keeps State.islandedTime (fun _ _ => rfl) s k
@[simp] theorem dropRider_islandedGrants (s : State) (k : Key) : (s.dropRider k).islandedGrants = s.islandedGrants :=
  dropRider_keeps State.islandedGrants (fun _ _ => rfl) s k
@[simp] theorem dropRider_epochValid (s : State) (k : Key) : (s.dropRider k).epochValid = s.epochValid :=
  dropRider_keeps State.epochValid (fun _ _ => rfl) s k
@[simp] theorem dropRider_epoch (s : State) (k : Key) : (s.dropRider k).epoch = s.epoch :=
  dropRider_keeps State.epoch (fun _ _ => rfl) s k
@[simp] theorem dropRider_epochTimer (s : State) (k : Key) : (s.dropRider k).epochTimer = s.epochTimer :=
  dropRider_keeps State.epochTimer (fun _ _ => rfl) s k
@[simp] theorem dropRider_behindMarks (s : State) (k : Key) : (s.dropRider k).behindMarks = s.behindMarks :=
  dropRider_keeps State.behindMarks (fun _ _ => rfl) s k
@[simp] theorem dropRider_loader (s : State) (k : Key) : (s.dropRider k).loader = s.loader :=
  dropRider_keeps State.loader (fun _ _ => rfl) s k
@[simp] theorem dropRider_batch (s : State) (k : Key) : (s.dropRider k).batch = s.batch :=
  dropRider_keeps State.batch (fun _ _ => rfl) s k
@[simp] theorem dropRider_stringA (s : State) (k : Key) : (s.dropRider k).stringA = s.stringA :=
  dropRider_keeps State.stringA (fun _ _ => rfl) s k
@[simp] theorem dropRider_stringB (s : State) (k : Key) : (s.dropRider k).stringB = s.stringB :=
  dropRider_keeps State.stringB (fun _ _ => rfl) s k
@[simp] theorem dropRider_params (s : State) (k : Key) : (s.dropRider k).params = s.params :=
  dropRider_keeps State.params (fun _ _ => rfl) s k
@[simp] theorem dropRider_descs (s : State) (k : Key) : (s.dropRider k).descs = s.descs :=
  dropRider_keeps State.descs (fun _ _ => rfl) s k
@[simp] theorem dropRider_ctxs (s : State) (k : Key) : (s.dropRider k).ctxs = s.ctxs :=
  dropRider_keeps State.ctxs (fun _ _ => rfl) s k
@[simp] theorem dropRider_classes (s : State) (k : Key) : (s.dropRider k).classes = s.classes :=
  dropRider_keeps State.classes (fun _ _ => rfl) s k
@[simp] theorem dropRider_keys (s : State) (k : Key) : (s.dropRider k).keys = s.keys :=
  dropRider_keeps State.keys (fun _ _ => rfl) s k
@[simp] theorem dropRider_closeMismatch (s : State) (k : Key) : (s.dropRider k).closeMismatch = s.closeMismatch :=
  dropRider_keeps State.closeMismatch (fun _ _ => rfl) s k
@[simp] theorem dropRider_blocks (s : State) (k : Key) : (s.dropRider k).blocks = s.blocks :=
  dropRider_keeps State.blocks (fun _ _ => rfl) s k
@[simp] theorem dropRider_records (s : State) (k : Key) : (s.dropRider k).records = s.records :=
  dropRider_keeps State.records (fun _ _ => rfl) s k
@[simp] theorem dropRider_nextNumber (s : State) (k : Key) : (s.dropRider k).nextNumber = s.nextNumber :=
  dropRider_keeps State.nextNumber (fun _ _ => rfl) s k
@[simp] theorem dropRider_pending (s : State) (k : Key) : (s.dropRider k).pending = s.pending :=
  dropRider_keeps State.pending (fun _ _ => rfl) s k

/-! ## addRecord -/

@[simp] theorem addRecord_resetnLow (s : State) (r : Record) : (s.addRecord r).resetnLow = s.resetnLow := rfl
@[simp] theorem addRecord_stationCode (s : State) (r : Record) : (s.addRecord r).stationCode = s.stationCode := rfl
@[simp] theorem addRecord_deframer (s : State) (r : Record) : (s.addRecord r).deframer = s.deframer := rfl
@[simp] theorem addRecord_uplink (s : State) (r : Record) : (s.addRecord r).uplink = s.uplink := rfl
@[simp] theorem addRecord_transmitter (s : State) (r : Record) : (s.addRecord r).transmitter = s.transmitter := rfl
@[simp] theorem addRecord_lastSent (s : State) (r : Record) : (s.addRecord r).lastSent = s.lastSent := rfl
@[simp] theorem addRecord_badFrames (s : State) (r : Record) : (s.addRecord r).badFrames = s.badFrames := rfl
@[simp] theorem addRecord_foreignFrames (s : State) (r : Record) : (s.addRecord r).foreignFrames = s.foreignFrames := rfl
@[simp] theorem addRecord_drops (s : State) (r : Record) : (s.addRecord r).drops = s.drops := rfl
@[simp] theorem addRecord_presence (s : State) (r : Record) : (s.addRecord r).presence = s.presence := rfl
@[simp] theorem addRecord_condition (s : State) (r : Record) : (s.addRecord r).condition = s.condition := rfl
@[simp] theorem addRecord_islandedTime (s : State) (r : Record) : (s.addRecord r).islandedTime = s.islandedTime := rfl
@[simp] theorem addRecord_islandedGrants (s : State) (r : Record) : (s.addRecord r).islandedGrants = s.islandedGrants := rfl
@[simp] theorem addRecord_epochValid (s : State) (r : Record) : (s.addRecord r).epochValid = s.epochValid := rfl
@[simp] theorem addRecord_epoch (s : State) (r : Record) : (s.addRecord r).epoch = s.epoch := rfl
@[simp] theorem addRecord_epochTimer (s : State) (r : Record) : (s.addRecord r).epochTimer = s.epochTimer := rfl
@[simp] theorem addRecord_behindMarks (s : State) (r : Record) : (s.addRecord r).behindMarks = s.behindMarks := rfl
@[simp] theorem addRecord_loader (s : State) (r : Record) : (s.addRecord r).loader = s.loader := rfl
@[simp] theorem addRecord_batch (s : State) (r : Record) : (s.addRecord r).batch = s.batch := rfl
@[simp] theorem addRecord_stringA (s : State) (r : Record) : (s.addRecord r).stringA = s.stringA := rfl
@[simp] theorem addRecord_stringB (s : State) (r : Record) : (s.addRecord r).stringB = s.stringB := rfl
@[simp] theorem addRecord_params (s : State) (r : Record) : (s.addRecord r).params = s.params := rfl
@[simp] theorem addRecord_descs (s : State) (r : Record) : (s.addRecord r).descs = s.descs := rfl
@[simp] theorem addRecord_ctxs (s : State) (r : Record) : (s.addRecord r).ctxs = s.ctxs := rfl
@[simp] theorem addRecord_classes (s : State) (r : Record) : (s.addRecord r).classes = s.classes := rfl
@[simp] theorem addRecord_keys (s : State) (r : Record) : (s.addRecord r).keys = s.keys := rfl
@[simp] theorem addRecord_riders (s : State) (r : Record) : (s.addRecord r).riders = s.riders := rfl
@[simp] theorem addRecord_closeMismatch (s : State) (r : Record) : (s.addRecord r).closeMismatch = s.closeMismatch := rfl
@[simp] theorem addRecord_blocks (s : State) (r : Record) : (s.addRecord r).blocks = s.blocks := rfl
@[simp] theorem addRecord_pending (s : State) (r : Record) : (s.addRecord r).pending = s.pending := rfl

/-! ## eraseRecord -/

@[simp] theorem eraseRecord_resetnLow (s : State) (n : Half) : (s.eraseRecord n).resetnLow = s.resetnLow := rfl
@[simp] theorem eraseRecord_stationCode (s : State) (n : Half) : (s.eraseRecord n).stationCode = s.stationCode := rfl
@[simp] theorem eraseRecord_deframer (s : State) (n : Half) : (s.eraseRecord n).deframer = s.deframer := rfl
@[simp] theorem eraseRecord_uplink (s : State) (n : Half) : (s.eraseRecord n).uplink = s.uplink := rfl
@[simp] theorem eraseRecord_transmitter (s : State) (n : Half) : (s.eraseRecord n).transmitter = s.transmitter := rfl
@[simp] theorem eraseRecord_lastSent (s : State) (n : Half) : (s.eraseRecord n).lastSent = s.lastSent := rfl
@[simp] theorem eraseRecord_badFrames (s : State) (n : Half) : (s.eraseRecord n).badFrames = s.badFrames := rfl
@[simp] theorem eraseRecord_foreignFrames (s : State) (n : Half) : (s.eraseRecord n).foreignFrames = s.foreignFrames := rfl
@[simp] theorem eraseRecord_drops (s : State) (n : Half) : (s.eraseRecord n).drops = s.drops := rfl
@[simp] theorem eraseRecord_presence (s : State) (n : Half) : (s.eraseRecord n).presence = s.presence := rfl
@[simp] theorem eraseRecord_condition (s : State) (n : Half) : (s.eraseRecord n).condition = s.condition := rfl
@[simp] theorem eraseRecord_islandedTime (s : State) (n : Half) : (s.eraseRecord n).islandedTime = s.islandedTime := rfl
@[simp] theorem eraseRecord_islandedGrants (s : State) (n : Half) : (s.eraseRecord n).islandedGrants = s.islandedGrants := rfl
@[simp] theorem eraseRecord_epochValid (s : State) (n : Half) : (s.eraseRecord n).epochValid = s.epochValid := rfl
@[simp] theorem eraseRecord_epoch (s : State) (n : Half) : (s.eraseRecord n).epoch = s.epoch := rfl
@[simp] theorem eraseRecord_epochTimer (s : State) (n : Half) : (s.eraseRecord n).epochTimer = s.epochTimer := rfl
@[simp] theorem eraseRecord_behindMarks (s : State) (n : Half) : (s.eraseRecord n).behindMarks = s.behindMarks := rfl
@[simp] theorem eraseRecord_loader (s : State) (n : Half) : (s.eraseRecord n).loader = s.loader := rfl
@[simp] theorem eraseRecord_batch (s : State) (n : Half) : (s.eraseRecord n).batch = s.batch := rfl
@[simp] theorem eraseRecord_stringA (s : State) (n : Half) : (s.eraseRecord n).stringA = s.stringA := rfl
@[simp] theorem eraseRecord_stringB (s : State) (n : Half) : (s.eraseRecord n).stringB = s.stringB := rfl
@[simp] theorem eraseRecord_params (s : State) (n : Half) : (s.eraseRecord n).params = s.params := rfl
@[simp] theorem eraseRecord_descs (s : State) (n : Half) : (s.eraseRecord n).descs = s.descs := rfl
@[simp] theorem eraseRecord_ctxs (s : State) (n : Half) : (s.eraseRecord n).ctxs = s.ctxs := rfl
@[simp] theorem eraseRecord_classes (s : State) (n : Half) : (s.eraseRecord n).classes = s.classes := rfl
@[simp] theorem eraseRecord_keys (s : State) (n : Half) : (s.eraseRecord n).keys = s.keys := rfl
@[simp] theorem eraseRecord_riders (s : State) (n : Half) : (s.eraseRecord n).riders = s.riders := rfl
@[simp] theorem eraseRecord_closeMismatch (s : State) (n : Half) : (s.eraseRecord n).closeMismatch = s.closeMismatch := rfl
@[simp] theorem eraseRecord_blocks (s : State) (n : Half) : (s.eraseRecord n).blocks = s.blocks := rfl
@[simp] theorem eraseRecord_nextNumber (s : State) (n : Half) : (s.eraseRecord n).nextNumber = s.nextNumber := rfl
@[simp] theorem eraseRecord_pending (s : State) (n : Half) : (s.eraseRecord n).pending = s.pending := rfl

/-! ## modRecord -/

@[simp] theorem modRecord_resetnLow (s : State) (n : Half) (f : Record → Record) : (s.modRecord n f).resetnLow = s.resetnLow := rfl
@[simp] theorem modRecord_stationCode (s : State) (n : Half) (f : Record → Record) : (s.modRecord n f).stationCode = s.stationCode := rfl
@[simp] theorem modRecord_deframer (s : State) (n : Half) (f : Record → Record) : (s.modRecord n f).deframer = s.deframer := rfl
@[simp] theorem modRecord_uplink (s : State) (n : Half) (f : Record → Record) : (s.modRecord n f).uplink = s.uplink := rfl
@[simp] theorem modRecord_transmitter (s : State) (n : Half) (f : Record → Record) : (s.modRecord n f).transmitter = s.transmitter := rfl
@[simp] theorem modRecord_lastSent (s : State) (n : Half) (f : Record → Record) : (s.modRecord n f).lastSent = s.lastSent := rfl
@[simp] theorem modRecord_badFrames (s : State) (n : Half) (f : Record → Record) : (s.modRecord n f).badFrames = s.badFrames := rfl
@[simp] theorem modRecord_foreignFrames (s : State) (n : Half) (f : Record → Record) : (s.modRecord n f).foreignFrames = s.foreignFrames := rfl
@[simp] theorem modRecord_drops (s : State) (n : Half) (f : Record → Record) : (s.modRecord n f).drops = s.drops := rfl
@[simp] theorem modRecord_presence (s : State) (n : Half) (f : Record → Record) : (s.modRecord n f).presence = s.presence := rfl
@[simp] theorem modRecord_condition (s : State) (n : Half) (f : Record → Record) : (s.modRecord n f).condition = s.condition := rfl
@[simp] theorem modRecord_islandedTime (s : State) (n : Half) (f : Record → Record) : (s.modRecord n f).islandedTime = s.islandedTime := rfl
@[simp] theorem modRecord_islandedGrants (s : State) (n : Half) (f : Record → Record) : (s.modRecord n f).islandedGrants = s.islandedGrants := rfl
@[simp] theorem modRecord_epochValid (s : State) (n : Half) (f : Record → Record) : (s.modRecord n f).epochValid = s.epochValid := rfl
@[simp] theorem modRecord_epoch (s : State) (n : Half) (f : Record → Record) : (s.modRecord n f).epoch = s.epoch := rfl
@[simp] theorem modRecord_epochTimer (s : State) (n : Half) (f : Record → Record) : (s.modRecord n f).epochTimer = s.epochTimer := rfl
@[simp] theorem modRecord_behindMarks (s : State) (n : Half) (f : Record → Record) : (s.modRecord n f).behindMarks = s.behindMarks := rfl
@[simp] theorem modRecord_loader (s : State) (n : Half) (f : Record → Record) : (s.modRecord n f).loader = s.loader := rfl
@[simp] theorem modRecord_batch (s : State) (n : Half) (f : Record → Record) : (s.modRecord n f).batch = s.batch := rfl
@[simp] theorem modRecord_stringA (s : State) (n : Half) (f : Record → Record) : (s.modRecord n f).stringA = s.stringA := rfl
@[simp] theorem modRecord_stringB (s : State) (n : Half) (f : Record → Record) : (s.modRecord n f).stringB = s.stringB := rfl
@[simp] theorem modRecord_params (s : State) (n : Half) (f : Record → Record) : (s.modRecord n f).params = s.params := rfl
@[simp] theorem modRecord_descs (s : State) (n : Half) (f : Record → Record) : (s.modRecord n f).descs = s.descs := rfl
@[simp] theorem modRecord_ctxs (s : State) (n : Half) (f : Record → Record) : (s.modRecord n f).ctxs = s.ctxs := rfl
@[simp] theorem modRecord_classes (s : State) (n : Half) (f : Record → Record) : (s.modRecord n f).classes = s.classes := rfl
@[simp] theorem modRecord_keys (s : State) (n : Half) (f : Record → Record) : (s.modRecord n f).keys = s.keys := rfl
@[simp] theorem modRecord_riders (s : State) (n : Half) (f : Record → Record) : (s.modRecord n f).riders = s.riders := rfl
@[simp] theorem modRecord_closeMismatch (s : State) (n : Half) (f : Record → Record) : (s.modRecord n f).closeMismatch = s.closeMismatch := rfl
@[simp] theorem modRecord_blocks (s : State) (n : Half) (f : Record → Record) : (s.modRecord n f).blocks = s.blocks := rfl
@[simp] theorem modRecord_nextNumber (s : State) (n : Half) (f : Record → Record) : (s.modRecord n f).nextNumber = s.nextNumber := rfl
@[simp] theorem modRecord_pending (s : State) (n : Half) (f : Record → Record) : (s.modRecord n f).pending = s.pending := rfl

/-! ## dropTest -/

@[simp] theorem dropTest_resetnLow (s : State) (k : Option Key) : (s.dropTest k).resetnLow = s.resetnLow :=
  dropTest_keeps State.resetnLow (fun _ _ => rfl) s k
@[simp] theorem dropTest_stationCode (s : State) (k : Option Key) : (s.dropTest k).stationCode = s.stationCode :=
  dropTest_keeps State.stationCode (fun _ _ => rfl) s k
@[simp] theorem dropTest_deframer (s : State) (k : Option Key) : (s.dropTest k).deframer = s.deframer :=
  dropTest_keeps State.deframer (fun _ _ => rfl) s k
@[simp] theorem dropTest_uplink (s : State) (k : Option Key) : (s.dropTest k).uplink = s.uplink :=
  dropTest_keeps State.uplink (fun _ _ => rfl) s k
@[simp] theorem dropTest_transmitter (s : State) (k : Option Key) : (s.dropTest k).transmitter = s.transmitter :=
  dropTest_keeps State.transmitter (fun _ _ => rfl) s k
@[simp] theorem dropTest_lastSent (s : State) (k : Option Key) : (s.dropTest k).lastSent = s.lastSent :=
  dropTest_keeps State.lastSent (fun _ _ => rfl) s k
@[simp] theorem dropTest_badFrames (s : State) (k : Option Key) : (s.dropTest k).badFrames = s.badFrames :=
  dropTest_keeps State.badFrames (fun _ _ => rfl) s k
@[simp] theorem dropTest_foreignFrames (s : State) (k : Option Key) : (s.dropTest k).foreignFrames = s.foreignFrames :=
  dropTest_keeps State.foreignFrames (fun _ _ => rfl) s k
@[simp] theorem dropTest_drops (s : State) (k : Option Key) : (s.dropTest k).drops = s.drops :=
  dropTest_keeps State.drops (fun _ _ => rfl) s k
@[simp] theorem dropTest_presence (s : State) (k : Option Key) : (s.dropTest k).presence = s.presence :=
  dropTest_keeps State.presence (fun _ _ => rfl) s k
@[simp] theorem dropTest_condition (s : State) (k : Option Key) : (s.dropTest k).condition = s.condition :=
  dropTest_keeps State.condition (fun _ _ => rfl) s k
@[simp] theorem dropTest_islandedTime (s : State) (k : Option Key) : (s.dropTest k).islandedTime = s.islandedTime :=
  dropTest_keeps State.islandedTime (fun _ _ => rfl) s k
@[simp] theorem dropTest_islandedGrants (s : State) (k : Option Key) : (s.dropTest k).islandedGrants = s.islandedGrants :=
  dropTest_keeps State.islandedGrants (fun _ _ => rfl) s k
@[simp] theorem dropTest_epochValid (s : State) (k : Option Key) : (s.dropTest k).epochValid = s.epochValid :=
  dropTest_keeps State.epochValid (fun _ _ => rfl) s k
@[simp] theorem dropTest_epoch (s : State) (k : Option Key) : (s.dropTest k).epoch = s.epoch :=
  dropTest_keeps State.epoch (fun _ _ => rfl) s k
@[simp] theorem dropTest_epochTimer (s : State) (k : Option Key) : (s.dropTest k).epochTimer = s.epochTimer :=
  dropTest_keeps State.epochTimer (fun _ _ => rfl) s k
@[simp] theorem dropTest_behindMarks (s : State) (k : Option Key) : (s.dropTest k).behindMarks = s.behindMarks :=
  dropTest_keeps State.behindMarks (fun _ _ => rfl) s k
@[simp] theorem dropTest_loader (s : State) (k : Option Key) : (s.dropTest k).loader = s.loader :=
  dropTest_keeps State.loader (fun _ _ => rfl) s k
@[simp] theorem dropTest_batch (s : State) (k : Option Key) : (s.dropTest k).batch = s.batch :=
  dropTest_keeps State.batch (fun _ _ => rfl) s k
@[simp] theorem dropTest_stringA (s : State) (k : Option Key) : (s.dropTest k).stringA = s.stringA :=
  dropTest_keeps State.stringA (fun _ _ => rfl) s k
@[simp] theorem dropTest_stringB (s : State) (k : Option Key) : (s.dropTest k).stringB = s.stringB :=
  dropTest_keeps State.stringB (fun _ _ => rfl) s k
@[simp] theorem dropTest_params (s : State) (k : Option Key) : (s.dropTest k).params = s.params :=
  dropTest_keeps State.params (fun _ _ => rfl) s k
@[simp] theorem dropTest_descs (s : State) (k : Option Key) : (s.dropTest k).descs = s.descs :=
  dropTest_keeps State.descs (fun _ _ => rfl) s k
@[simp] theorem dropTest_ctxs (s : State) (k : Option Key) : (s.dropTest k).ctxs = s.ctxs :=
  dropTest_keeps State.ctxs (fun _ _ => rfl) s k
@[simp] theorem dropTest_classes (s : State) (k : Option Key) : (s.dropTest k).classes = s.classes :=
  dropTest_keeps State.classes (fun _ _ => rfl) s k
@[simp] theorem dropTest_keys (s : State) (k : Option Key) : (s.dropTest k).keys = s.keys :=
  dropTest_keeps State.keys (fun _ _ => rfl) s k
@[simp] theorem dropTest_closeMismatch (s : State) (k : Option Key) : (s.dropTest k).closeMismatch = s.closeMismatch :=
  dropTest_keeps State.closeMismatch (fun _ _ => rfl) s k
@[simp] theorem dropTest_blocks (s : State) (k : Option Key) : (s.dropTest k).blocks = s.blocks :=
  dropTest_keeps State.blocks (fun _ _ => rfl) s k
@[simp] theorem dropTest_records (s : State) (k : Option Key) : (s.dropTest k).records = s.records :=
  dropTest_keeps State.records (fun _ _ => rfl) s k
@[simp] theorem dropTest_nextNumber (s : State) (k : Option Key) : (s.dropTest k).nextNumber = s.nextNumber :=
  dropTest_keeps State.nextNumber (fun _ _ => rfl) s k
@[simp] theorem dropTest_pending (s : State) (k : Option Key) : (s.dropTest k).pending = s.pending :=
  dropTest_keeps State.pending (fun _ _ => rfl) s k

/-! ## refundFor -/

@[simp] theorem refundFor_resetnLow (s : State) (r : Record) : (s.refundFor r).resetnLow = s.resetnLow :=
  refundFor_keeps State.resetnLow (fun _ _ => rfl) s r
@[simp] theorem refundFor_stationCode (s : State) (r : Record) : (s.refundFor r).stationCode = s.stationCode :=
  refundFor_keeps State.stationCode (fun _ _ => rfl) s r
@[simp] theorem refundFor_deframer (s : State) (r : Record) : (s.refundFor r).deframer = s.deframer :=
  refundFor_keeps State.deframer (fun _ _ => rfl) s r
@[simp] theorem refundFor_uplink (s : State) (r : Record) : (s.refundFor r).uplink = s.uplink :=
  refundFor_keeps State.uplink (fun _ _ => rfl) s r
@[simp] theorem refundFor_transmitter (s : State) (r : Record) : (s.refundFor r).transmitter = s.transmitter :=
  refundFor_keeps State.transmitter (fun _ _ => rfl) s r
@[simp] theorem refundFor_lastSent (s : State) (r : Record) : (s.refundFor r).lastSent = s.lastSent :=
  refundFor_keeps State.lastSent (fun _ _ => rfl) s r
@[simp] theorem refundFor_badFrames (s : State) (r : Record) : (s.refundFor r).badFrames = s.badFrames :=
  refundFor_keeps State.badFrames (fun _ _ => rfl) s r
@[simp] theorem refundFor_foreignFrames (s : State) (r : Record) : (s.refundFor r).foreignFrames = s.foreignFrames :=
  refundFor_keeps State.foreignFrames (fun _ _ => rfl) s r
@[simp] theorem refundFor_drops (s : State) (r : Record) : (s.refundFor r).drops = s.drops :=
  refundFor_keeps State.drops (fun _ _ => rfl) s r
@[simp] theorem refundFor_presence (s : State) (r : Record) : (s.refundFor r).presence = s.presence :=
  refundFor_keeps State.presence (fun _ _ => rfl) s r
@[simp] theorem refundFor_condition (s : State) (r : Record) : (s.refundFor r).condition = s.condition :=
  refundFor_keeps State.condition (fun _ _ => rfl) s r
@[simp] theorem refundFor_islandedTime (s : State) (r : Record) : (s.refundFor r).islandedTime = s.islandedTime :=
  refundFor_keeps State.islandedTime (fun _ _ => rfl) s r
@[simp] theorem refundFor_islandedGrants (s : State) (r : Record) : (s.refundFor r).islandedGrants = s.islandedGrants :=
  refundFor_keeps State.islandedGrants (fun _ _ => rfl) s r
@[simp] theorem refundFor_epochValid (s : State) (r : Record) : (s.refundFor r).epochValid = s.epochValid :=
  refundFor_keeps State.epochValid (fun _ _ => rfl) s r
@[simp] theorem refundFor_epoch (s : State) (r : Record) : (s.refundFor r).epoch = s.epoch :=
  refundFor_keeps State.epoch (fun _ _ => rfl) s r
@[simp] theorem refundFor_epochTimer (s : State) (r : Record) : (s.refundFor r).epochTimer = s.epochTimer :=
  refundFor_keeps State.epochTimer (fun _ _ => rfl) s r
@[simp] theorem refundFor_behindMarks (s : State) (r : Record) : (s.refundFor r).behindMarks = s.behindMarks :=
  refundFor_keeps State.behindMarks (fun _ _ => rfl) s r
@[simp] theorem refundFor_loader (s : State) (r : Record) : (s.refundFor r).loader = s.loader :=
  refundFor_keeps State.loader (fun _ _ => rfl) s r
@[simp] theorem refundFor_batch (s : State) (r : Record) : (s.refundFor r).batch = s.batch :=
  refundFor_keeps State.batch (fun _ _ => rfl) s r
@[simp] theorem refundFor_stringA (s : State) (r : Record) : (s.refundFor r).stringA = s.stringA :=
  refundFor_keeps State.stringA (fun _ _ => rfl) s r
@[simp] theorem refundFor_stringB (s : State) (r : Record) : (s.refundFor r).stringB = s.stringB :=
  refundFor_keeps State.stringB (fun _ _ => rfl) s r
@[simp] theorem refundFor_params (s : State) (r : Record) : (s.refundFor r).params = s.params :=
  refundFor_keeps State.params (fun _ _ => rfl) s r
@[simp] theorem refundFor_descs (s : State) (r : Record) : (s.refundFor r).descs = s.descs :=
  refundFor_keeps State.descs (fun _ _ => rfl) s r
@[simp] theorem refundFor_ctxs (s : State) (r : Record) : (s.refundFor r).ctxs = s.ctxs :=
  refundFor_keeps State.ctxs (fun _ _ => rfl) s r
@[simp] theorem refundFor_classes (s : State) (r : Record) : (s.refundFor r).classes = s.classes :=
  refundFor_keeps State.classes (fun _ _ => rfl) s r
@[simp] theorem refundFor_keys (s : State) (r : Record) : (s.refundFor r).keys = s.keys :=
  refundFor_keeps State.keys (fun _ _ => rfl) s r
@[simp] theorem refundFor_closeMismatch (s : State) (r : Record) : (s.refundFor r).closeMismatch = s.closeMismatch :=
  refundFor_keeps State.closeMismatch (fun _ _ => rfl) s r
@[simp] theorem refundFor_blocks (s : State) (r : Record) : (s.refundFor r).blocks = s.blocks :=
  refundFor_keeps State.blocks (fun _ _ => rfl) s r
@[simp] theorem refundFor_records (s : State) (r : Record) : (s.refundFor r).records = s.records :=
  refundFor_keeps State.records (fun _ _ => rfl) s r
@[simp] theorem refundFor_nextNumber (s : State) (r : Record) : (s.refundFor r).nextNumber = s.nextNumber :=
  refundFor_keeps State.nextNumber (fun _ _ => rfl) s r
@[simp] theorem refundFor_pending (s : State) (r : Record) : (s.refundFor r).pending = s.pending :=
  refundFor_keeps State.pending (fun _ _ => rfl) s r

/-! ## startPresence -/

@[simp] theorem startPresence_resetnLow (s : State) : (s.startPresence).resetnLow = s.resetnLow := rfl
@[simp] theorem startPresence_stationCode (s : State) : (s.startPresence).stationCode = s.stationCode := rfl
@[simp] theorem startPresence_deframer (s : State) : (s.startPresence).deframer = s.deframer := rfl
@[simp] theorem startPresence_uplink (s : State) : (s.startPresence).uplink = s.uplink := rfl
@[simp] theorem startPresence_transmitter (s : State) : (s.startPresence).transmitter = s.transmitter := rfl
@[simp] theorem startPresence_lastSent (s : State) : (s.startPresence).lastSent = s.lastSent := rfl
@[simp] theorem startPresence_badFrames (s : State) : (s.startPresence).badFrames = s.badFrames := rfl
@[simp] theorem startPresence_foreignFrames (s : State) : (s.startPresence).foreignFrames = s.foreignFrames := rfl
@[simp] theorem startPresence_drops (s : State) : (s.startPresence).drops = s.drops := rfl
@[simp] theorem startPresence_condition (s : State) : (s.startPresence).condition = s.condition := rfl
@[simp] theorem startPresence_islandedTime (s : State) : (s.startPresence).islandedTime = s.islandedTime := rfl
@[simp] theorem startPresence_islandedGrants (s : State) : (s.startPresence).islandedGrants = s.islandedGrants := rfl
@[simp] theorem startPresence_epochValid (s : State) : (s.startPresence).epochValid = s.epochValid := rfl
@[simp] theorem startPresence_epoch (s : State) : (s.startPresence).epoch = s.epoch := rfl
@[simp] theorem startPresence_epochTimer (s : State) : (s.startPresence).epochTimer = s.epochTimer := rfl
@[simp] theorem startPresence_behindMarks (s : State) : (s.startPresence).behindMarks = s.behindMarks := rfl
@[simp] theorem startPresence_loader (s : State) : (s.startPresence).loader = s.loader := rfl
@[simp] theorem startPresence_batch (s : State) : (s.startPresence).batch = s.batch := rfl
@[simp] theorem startPresence_stringA (s : State) : (s.startPresence).stringA = s.stringA := rfl
@[simp] theorem startPresence_stringB (s : State) : (s.startPresence).stringB = s.stringB := rfl
@[simp] theorem startPresence_params (s : State) : (s.startPresence).params = s.params := rfl
@[simp] theorem startPresence_descs (s : State) : (s.startPresence).descs = s.descs := rfl
@[simp] theorem startPresence_ctxs (s : State) : (s.startPresence).ctxs = s.ctxs := rfl
@[simp] theorem startPresence_classes (s : State) : (s.startPresence).classes = s.classes := rfl
@[simp] theorem startPresence_keys (s : State) : (s.startPresence).keys = s.keys := rfl
@[simp] theorem startPresence_riders (s : State) : (s.startPresence).riders = s.riders := rfl
@[simp] theorem startPresence_closeMismatch (s : State) : (s.startPresence).closeMismatch = s.closeMismatch := rfl
@[simp] theorem startPresence_blocks (s : State) : (s.startPresence).blocks = s.blocks := rfl
@[simp] theorem startPresence_records (s : State) : (s.startPresence).records = s.records := rfl
@[simp] theorem startPresence_nextNumber (s : State) : (s.startPresence).nextNumber = s.nextNumber := rfl
@[simp] theorem startPresence_pending (s : State) : (s.startPresence).pending = s.pending := rfl

/-! ## withPending -/

@[simp] theorem withPending_resetnLow (s : State) (q : List Instr) : (s.withPending q).resetnLow = s.resetnLow := rfl
@[simp] theorem withPending_stationCode (s : State) (q : List Instr) : (s.withPending q).stationCode = s.stationCode := rfl
@[simp] theorem withPending_deframer (s : State) (q : List Instr) : (s.withPending q).deframer = s.deframer := rfl
@[simp] theorem withPending_uplink (s : State) (q : List Instr) : (s.withPending q).uplink = s.uplink := rfl
@[simp] theorem withPending_transmitter (s : State) (q : List Instr) : (s.withPending q).transmitter = s.transmitter := rfl
@[simp] theorem withPending_lastSent (s : State) (q : List Instr) : (s.withPending q).lastSent = s.lastSent := rfl
@[simp] theorem withPending_badFrames (s : State) (q : List Instr) : (s.withPending q).badFrames = s.badFrames := rfl
@[simp] theorem withPending_foreignFrames (s : State) (q : List Instr) : (s.withPending q).foreignFrames = s.foreignFrames := rfl
@[simp] theorem withPending_drops (s : State) (q : List Instr) : (s.withPending q).drops = s.drops := rfl
@[simp] theorem withPending_presence (s : State) (q : List Instr) : (s.withPending q).presence = s.presence := rfl
@[simp] theorem withPending_condition (s : State) (q : List Instr) : (s.withPending q).condition = s.condition := rfl
@[simp] theorem withPending_islandedTime (s : State) (q : List Instr) : (s.withPending q).islandedTime = s.islandedTime := rfl
@[simp] theorem withPending_islandedGrants (s : State) (q : List Instr) : (s.withPending q).islandedGrants = s.islandedGrants := rfl
@[simp] theorem withPending_epochValid (s : State) (q : List Instr) : (s.withPending q).epochValid = s.epochValid := rfl
@[simp] theorem withPending_epoch (s : State) (q : List Instr) : (s.withPending q).epoch = s.epoch := rfl
@[simp] theorem withPending_epochTimer (s : State) (q : List Instr) : (s.withPending q).epochTimer = s.epochTimer := rfl
@[simp] theorem withPending_behindMarks (s : State) (q : List Instr) : (s.withPending q).behindMarks = s.behindMarks := rfl
@[simp] theorem withPending_loader (s : State) (q : List Instr) : (s.withPending q).loader = s.loader := rfl
@[simp] theorem withPending_batch (s : State) (q : List Instr) : (s.withPending q).batch = s.batch := rfl
@[simp] theorem withPending_stringA (s : State) (q : List Instr) : (s.withPending q).stringA = s.stringA := rfl
@[simp] theorem withPending_stringB (s : State) (q : List Instr) : (s.withPending q).stringB = s.stringB := rfl
@[simp] theorem withPending_params (s : State) (q : List Instr) : (s.withPending q).params = s.params := rfl
@[simp] theorem withPending_descs (s : State) (q : List Instr) : (s.withPending q).descs = s.descs := rfl
@[simp] theorem withPending_ctxs (s : State) (q : List Instr) : (s.withPending q).ctxs = s.ctxs := rfl
@[simp] theorem withPending_classes (s : State) (q : List Instr) : (s.withPending q).classes = s.classes := rfl
@[simp] theorem withPending_keys (s : State) (q : List Instr) : (s.withPending q).keys = s.keys := rfl
@[simp] theorem withPending_riders (s : State) (q : List Instr) : (s.withPending q).riders = s.riders := rfl
@[simp] theorem withPending_closeMismatch (s : State) (q : List Instr) : (s.withPending q).closeMismatch = s.closeMismatch := rfl
@[simp] theorem withPending_blocks (s : State) (q : List Instr) : (s.withPending q).blocks = s.blocks := rfl
@[simp] theorem withPending_records (s : State) (q : List Instr) : (s.withPending q).records = s.records := rfl
@[simp] theorem withPending_nextNumber (s : State) (q : List Instr) : (s.withPending q).nextNumber = s.nextNumber := rfl

end Sys2Proof.Machine
end

