-- ==== Sys2Proof/Laws/Ops.lean ====
section
/-! SUPPORT. One lemma for each shared operation: what it can do. -/

namespace Sys2Proof.Machine

/-! ## Vectors -/

@[simp] theorem tabulate_get {α : Type} {n : Nat} (g : Fin n → α) (i : Fin n) : (tabulate g).get i = g i := by
  simp only [tabulate, Vector.get, List.getElem_toArray, List.getElem_ofFn]
  rfl

@[simp] theorem vector_get_set_self {α : Type} {n : Nat} (v : Vector α n) (i : Fin n) (x : α) : (v.set i x).get i = x := by
  simp only [Vector.get, Vector.set]
  exact Array.getElem_set_self ..

theorem vector_get_set_ne {α : Type} {n : Nat} (v : Vector α n) {i j : Fin n} (h : i ≠ j) (x : α) :
    (v.set i x).get j = v.get j := by
  have hv : i.val ≠ j.val := fun e => h (Fin.ext e)
  simp only [Vector.get, Vector.set]
  exact Array.getElem_set_ne (h := hv) ..

/-! ## The Uplink Queue (R175) -/

/-- A frame that meets room joins the end; else it is dropped and counted. -/
theorem offer_cases (s : State) (f : Uplink) :
    (s.uplink.length < 64 ∧ s.offer f = { s with uplink := s.uplink ++ [f] }) ∨
      (64 ≤ s.uplink.length ∧ s.offer f = { s with drops := min 255 (s.drops + 1) }) := by
  unfold State.offer
  split
  · next h => exact .inl ⟨h, rfl⟩
  · next h => exact .inr ⟨by omega, rfl⟩

theorem offer_length_le (s : State) (f : Uplink) (h : s.uplink.length ≤ 64) : (s.offer f).uplink.length ≤ 64 := by
  rcases offer_cases s f with ⟨hl, he⟩ | ⟨_, he⟩ <;> rw [he]
  · simp; omega
  · exact h

/-! ## Contexts, strings -/

@[simp] theorem ctx_modCtx_self (s : State) (d : DockNo) (f : DockContext → DockContext) :
    (s.modCtx d f).ctx d = f (s.ctx d) := by simp [State.ctx, State.modCtx]

/-- A dock context changed twice is changed once. -/
theorem modCtx_modCtx (s : State) (d : DockNo) (f g : DockContext → DockContext) :
    (s.modCtx d f).modCtx d g = s.modCtx d (g ∘ f) := by
  have h : ∀ (v : Vector DockContext 48) (a b : DockContext), (v.set d a).set d b = v.set d b := by simp
  simp only [State.modCtx, Function.comp, h, State.ctx, vector_get_set_self]

/-- Two changes that agree on the dock's own context are one. -/
theorem modCtx_congr {s : State} {d : DockNo} {f g : DockContext → DockContext} (h : f (s.ctx d) = g (s.ctx d)) :
    s.modCtx d f = s.modCtx d g := by unfold State.modCtx; rw [h]

theorem ctx_modCtx_ne (s : State) {d e : DockNo} (f : DockContext → DockContext) (h : d ≠ e) :
    (s.modCtx d f).ctx e = s.ctx e := by simp [State.ctx, State.modCtx, vector_get_set_ne _ h]

@[simp] theorem ctx_mapCtxs (s : State) (f : DockNo → DockContext → DockContext) (d : DockNo) :
    (s.mapCtxs f).ctx d = f d (s.ctx d) := by simp [State.ctx, State.mapCtxs]

@[simp] theorem str_setStr_self (s : State) (m : StringId) (x : StringMaster) : (s.setStr m x).str m = x := by
  cases m <;> rfl

theorem str_setStr_ne (s : State) {m n : StringId} (x : StringMaster) (h : m ≠ n) : (s.setStr m x).str n = s.str n := by
  cases m <;> cases n <;> first | exact absurd rfl h | rfl

/-! ## The Rider Table (R17) -/

theorem bucket_setWay_self (s : State) (b : Fin 1024) (w : Fin 4) (x : Option RiderEntry) :
    (s.setWay b w x).bucket b = (s.bucket b).set w x := by simp [State.bucket, State.setWay]

theorem bucket_setWay_ne (s : State) {b c : Fin 1024} (w : Fin 4) (x : Option RiderEntry) (h : b ≠ c) :
    (s.setWay b w x).bucket c = s.bucket c := by simp [State.bucket, State.setWay, vector_get_set_ne _ h]

/-- The way a lookup finds holds an entry of the key (R17). -/
theorem wayOf_some {b : Bucket} {k : Key} {w : Fin 4} (h : wayOf b k = some w) :
    k ≠ 0 ∧ ∃ e, b.get w = some e ∧ e.key = k := by
  unfold wayOf at h
  split at h
  · cases h
  · next hk =>
    refine ⟨hk, ?_⟩
    have hp := List.find?_some h
    cases hg : b.get w with
    | none => simp [holdsKey, hg] at hp
    | some e => exact ⟨e, rfl, by simpa [holdsKey, hg] using hp⟩

theorem wayOf_congr {b c : Bucket} {k : Key} (h : ∀ w, holdsKey k (b.get w) = holdsKey k (c.get w)) :
    wayOf b k = wayOf c k := by
  unfold wayOf
  split
  · rfl
  · congr 1; funext w; exact h w

/-- A lookup that finds an entry, by the way it finds it in. -/
theorem lookup_eq_some {s : State} {k : Key} {e : RiderEntry} :
    s.lookup k = some e ↔ ∃ w, wayOf (s.bucket (bucketOf k)) k = some w ∧ (s.bucket (bucketOf k)).get w = some e := by
  unfold State.lookup
  cases wayOf (s.bucket (bucketOf k)) k <;> simp

theorem lookup_key {s : State} {k : Key} {e : RiderEntry} (h : s.lookup k = some e) : e.key = k ∧ k ≠ 0 := by
  obtain ⟨w, hw, he⟩ := lookup_eq_some.1 h
  obtain ⟨hk, e', he', hk'⟩ := wayOf_some hw
  rw [he] at he'; cases he'
  exact ⟨hk', hk⟩

theorem lookup_eq_none {s : State} {k : Key} : s.lookup k = none ↔ wayOf (s.bucket (bucketOf k)) k = none := by
  unfold State.lookup
  cases hw : wayOf (s.bucket (bucketOf k)) k with
  | none => simp
  | some w =>
    obtain ⟨_, e, he, _⟩ := wayOf_some hw
    simp [he]

/-- The change of one rider's entry is seen by the lookups of that key and of no other. -/
theorem lookup_modRider (s : State) (k : Key) (f : RiderEntry → RiderEntry) (hf : ∀ e, (f e).key = e.key) (k' : Key) :
    (s.modRider k f).lookup k' = if k' = k then (s.lookup k).map f else s.lookup k' := by
  unfold State.modRider
  cases hw : wayOf (s.bucket (bucketOf k)) k with
  | none =>
    by_cases h : k' = k
    · subst h; simp [lookup_eq_none.2 hw]
    · simp [h]
  | some w =>
    obtain ⟨hk0, e, he, hek⟩ := wayOf_some hw
    simp only [he, Option.map_some]
    by_cases hb : bucketOf k = bucketOf k'
    · have hbk : (s.setWay (bucketOf k) w (some (f e))).bucket (bucketOf k') =
          (s.bucket (bucketOf k')).set w (some (f e)) := by rw [← hb]; exact bucket_setWay_self ..
      have hsame : ∀ k'' v, holdsKey k'' (((s.bucket (bucketOf k')).set w (some (f e))).get v) =
          holdsKey k'' ((s.bucket (bucketOf k')).get v) := by
        intro k'' v
        by_cases hv : w = v
        · subst hv; rw [vector_get_set_self, ← hb, he]; simp [holdsKey, hf]
        · rw [vector_get_set_ne _ hv]
      have hway : wayOf ((s.bucket (bucketOf k')).set w (some (f e))) k' = wayOf (s.bucket (bucketOf k')) k' :=
        wayOf_congr fun v => hsame k' v
      unfold State.lookup
      rw [hbk, hway]
      by_cases h : k' = k
      · subst h; simp [hw, he]
      · simp only [h, if_false]
        cases hv : wayOf (s.bucket (bucketOf k')) k' with
        | none => rfl
        | some v =>
          obtain ⟨_, e', he', hk'⟩ := wayOf_some hv
          have hne : w ≠ v := by
            intro hwv; subst hwv; rw [← hb, he] at he'; cases he'; exact h (hk'.symm.trans hek)
          simp [vector_get_set_ne _ hne]
    · have hbk : (s.setWay (bucketOf k) w (some (f e))).bucket (bucketOf k') = s.bucket (bucketOf k') :=
        bucket_setWay_ne _ _ _ hb
      have h : k' ≠ k := fun hk => hb (by rw [hk])
      simp [State.lookup, hbk, h]

/-! ## Release numbers (R82) -/

/-- The number found from a candidate upward is one that no live record holds, when fewer numbers than the fuel lie ahead. -/
theorem freeNumber_spec (held : List Half) (fuel : Nat) (c : Half) :
    freeNumber held fuel c ∉ held ∨ ∀ i, i < fuel → c + BitVec.ofNat 16 i ∈ held := by
  induction fuel generalizing c with
  | zero => exact .inr fun i hi => absurd hi (Nat.not_lt_zero i)
  | succ n ih =>
    unfold freeNumber
    split
    · next hc =>
      rcases ih (c + 1) with h | h
      · exact .inl h
      · refine .inr fun i hi => ?_
        cases i with
        | zero => simpa using hc
        | succ j =>
          have := h j (by omega)
          have e : c + BitVec.ofNat 16 (j + 1) = c + 1 + BitVec.ofNat 16 j := by
            rw [BitVec.add_assoc]; congr 1
            apply BitVec.eq_of_toNat_eq; simp; omega
          rw [e]; exact this
    · next hc => exact .inl hc

end Sys2Proof.Machine
end

