-- ==== Sys2Proof/Laws/Heard.lean ====
section
/-! SUPPORT. The acceptance of a frame at the Islanding Monitor: what `State.heard` can do, said once, and what it leaves. -/

namespace Sys2Proof.Machine

/-- Offering a frame writes the queue and the drop count alone. -/
theorem offer_eq (s : State) (f : Uplink) : ∃ u n, s.offer f = { s with uplink := u, drops := n } := by
  unfold State.offer
  split
  · exact ⟨_, s.drops, rfl⟩
  · exact ⟨s.uplink, _, rfl⟩

/-- The return to online, with what its STATION_STATE makes of the queue left open. -/
theorem returnOnline_eq (s : State) : ∃ u n, s.returnOnline =
    State.markClosed { s with presence := some (s.params.presenceTimeout * 10), condition := .online, islandedTime := 0,
                              islandedGrants := 0, uplink := u, drops := n } := by
  obtain ⟨u, n, h⟩ := offer_eq ({ s with condition := .online }.startPresence)
    (.stationState (({ s with condition := .online }.startPresence).stationReport .online 0 0 s.islandedSeconds
      s.islandedGrants))
  refine ⟨u, n, ?_⟩
  simp only [State.returnOnline, State.goOnline, h]
  rfl

/-- All that an acceptance writes: presence timer, condition, the two islanded counts, the queue with its drop count, the unsent
marks of the contexts. -/
theorem heard_eq (s : State) : ∃ uplink drops ctxs, s.heard =
    { s with presence := some (s.params.presenceTimeout * 10), condition := .online
             islandedTime := if s.condition = .islanded then 0 else s.islandedTime
             islandedGrants := if s.condition = .islanded then 0 else s.islandedGrants
             uplink := uplink, drops := drops, ctxs := ctxs } := by
  cases hc : s.condition with
  | online =>
    refine ⟨s.uplink, s.drops, s.ctxs, ?_⟩
    simp only [State.heard, hc, State.startPresence]
    rfl
  | islanded =>
    obtain ⟨u, n, h⟩ := returnOnline_eq s
    simp only [State.heard, hc, h]
    exact ⟨_, _, _, rfl⟩

/-- A reading of the state that the acceptance's fields do not enter is kept. -/
theorem heard_keeps {α : Type} (g : State → α)
    (hg : ∀ s p c t n u d x, g { s with presence := p, condition := c, islandedTime := t, islandedGrants := n, uplink := u,
                                        drops := d, ctxs := x } = g s) (s : State) : g s.heard = g s := by
  obtain ⟨u, d, x, h⟩ := heard_eq s
  rw [h]
  exact hg ..

/-- A context after every polled dock of mode CLOSE has been marked unsent. -/
theorem markClosed_ctx (s : State) (d : DockNo) : s.markClosed.ctx d =
    if s.polled d = true ∧ (s.desc d).mode = .close then { s.ctx d with unsent := true } else s.ctx d :=
  ctx_mapCtxs s _ d

/-- A context after an acceptance: a polled dock of mode CLOSE is unsent when the acceptance ended an islanded period. -/
theorem heard_ctx (s : State) (d : DockNo) : s.heard.ctx d =
    if s.condition = .islanded ∧ s.polled d = true ∧ (s.desc d).mode = .close then { s.ctx d with unsent := true }
    else s.ctx d := by
  cases hc : s.condition with
  | online => simp [State.heard, hc, State.startPresence, State.ctx]
  | islanded =>
    obtain ⟨u, n, h⟩ := returnOnline_eq s
    simp only [State.heard, hc, h]
    refine (markClosed_ctx _ d).trans ?_
    by_cases hp : s.polled d = true ∧ (s.desc d).mode = .close
    · exact (if_pos hp).trans (if_pos ⟨trivial, hp⟩).symm
    · exact (if_neg hp).trans (if_neg fun x => hp x.2).symm

@[simp] theorem heard_resetnLow (s : State) : s.heard.resetnLow = s.resetnLow :=
  heard_keeps State.resetnLow (fun _ _ _ _ _ _ _ _ => rfl) s
@[simp] theorem heard_stationCode (s : State) : s.heard.stationCode = s.stationCode :=
  heard_keeps State.stationCode (fun _ _ _ _ _ _ _ _ => rfl) s
@[simp] theorem heard_deframer (s : State) : s.heard.deframer = s.deframer :=
  heard_keeps State.deframer (fun _ _ _ _ _ _ _ _ => rfl) s
@[simp] theorem heard_transmitter (s : State) : s.heard.transmitter = s.transmitter :=
  heard_keeps State.transmitter (fun _ _ _ _ _ _ _ _ => rfl) s
@[simp] theorem heard_badFrames (s : State) : s.heard.badFrames = s.badFrames :=
  heard_keeps State.badFrames (fun _ _ _ _ _ _ _ _ => rfl) s
@[simp] theorem heard_foreignFrames (s : State) : s.heard.foreignFrames = s.foreignFrames :=
  heard_keeps State.foreignFrames (fun _ _ _ _ _ _ _ _ => rfl) s
@[simp] theorem heard_epochValid (s : State) : s.heard.epochValid = s.epochValid :=
  heard_keeps State.epochValid (fun _ _ _ _ _ _ _ _ => rfl) s
@[simp] theorem heard_epoch (s : State) : s.heard.epoch = s.epoch :=
  heard_keeps State.epoch (fun _ _ _ _ _ _ _ _ => rfl) s
@[simp] theorem heard_epochTimer (s : State) : s.heard.epochTimer = s.epochTimer :=
  heard_keeps State.epochTimer (fun _ _ _ _ _ _ _ _ => rfl) s
@[simp] theorem heard_behindMarks (s : State) : s.heard.behindMarks = s.behindMarks :=
  heard_keeps State.behindMarks (fun _ _ _ _ _ _ _ _ => rfl) s
@[simp] theorem heard_loader (s : State) : s.heard.loader = s.loader :=
  heard_keeps State.loader (fun _ _ _ _ _ _ _ _ => rfl) s
@[simp] theorem heard_batch (s : State) : s.heard.batch = s.batch :=
  heard_keeps State.batch (fun _ _ _ _ _ _ _ _ => rfl) s
@[simp] theorem heard_str (s : State) (m : StringId) : s.heard.str m = s.str m :=
  heard_keeps (fun s => s.str m) (fun _ _ _ _ _ _ _ _ => by cases m <;> rfl) s
@[simp] theorem heard_params (s : State) : s.heard.params = s.params :=
  heard_keeps State.params (fun _ _ _ _ _ _ _ _ => rfl) s
@[simp] theorem heard_descs (s : State) : s.heard.descs = s.descs :=
  heard_keeps State.descs (fun _ _ _ _ _ _ _ _ => rfl) s
@[simp] theorem heard_desc (s : State) (d : DockNo) : s.heard.desc d = s.desc d :=
  heard_keeps (fun s => s.desc d) (fun _ _ _ _ _ _ _ _ => rfl) s
@[simp] theorem heard_classes (s : State) : s.heard.classes = s.classes :=
  heard_keeps State.classes (fun _ _ _ _ _ _ _ _ => rfl) s
@[simp] theorem heard_keys (s : State) : s.heard.keys = s.keys :=
  heard_keeps State.keys (fun _ _ _ _ _ _ _ _ => rfl) s
@[simp] theorem heard_riders (s : State) : s.heard.riders = s.riders :=
  heard_keeps State.riders (fun _ _ _ _ _ _ _ _ => rfl) s
@[simp] theorem heard_lookup (s : State) (k : Key) : s.heard.lookup k = s.lookup k :=
  heard_keeps (fun s => s.lookup k) (fun _ _ _ _ _ _ _ _ => rfl) s
@[simp] theorem heard_closeMismatch (s : State) : s.heard.closeMismatch = s.closeMismatch :=
  heard_keeps State.closeMismatch (fun _ _ _ _ _ _ _ _ => rfl) s
@[simp] theorem heard_blocks (s : State) : s.heard.blocks = s.blocks :=
  heard_keeps State.blocks (fun _ _ _ _ _ _ _ _ => rfl) s
@[simp] theorem heard_records (s : State) : s.heard.records = s.records :=
  heard_keeps State.records (fun _ _ _ _ _ _ _ _ => rfl) s
@[simp] theorem heard_nextNumber (s : State) : s.heard.nextNumber = s.nextNumber :=
  heard_keeps State.nextNumber (fun _ _ _ _ _ _ _ _ => rfl) s
@[simp] theorem heard_pending (s : State) : s.heard.pending = s.pending :=
  heard_keeps State.pending (fun _ _ _ _ _ _ _ _ => rfl) s
@[simp] theorem heard_polled (s : State) (d : DockNo) : s.heard.polled d = s.polled d :=
  heard_keeps (fun s => s.polled d) (fun _ _ _ _ _ _ _ _ => rfl) s
@[simp] theorem heard_members (s : State) (m : StringId) : s.heard.members m = s.members m :=
  heard_keeps (fun s => s.members m) (fun _ _ _ _ _ _ _ _ => rfl) s

end Sys2Proof.Machine
end

