-- ==== Sys2Proof/Laws/Link.lean ====
section
/-! SUPPORT. The Station Link's reception: a frame received from HUNT is judged whole, and the deframer is back in HUNT. -/

namespace Sys2Proof.Machine

/-! ## Byte order -/

@[simp] theorem halfBytes_length (h : Half) : (halfBytes h).length = 2 := rfl

@[simp] theorem wordBytes_length (w : Word) : (wordBytes w).length = 4 := rfl

@[simp] theorem natBytes2_length (n : Nat) : (natBytes2 n).length = 2 := rfl

/-- The two bytes of a 16-bit number, joined again. -/
@[simp] theorem joinHalf_halfBytes (h : Half) : joinHalf (h.extractLsb' 8 8) (h.extractLsb' 0 8) = h := by
  unfold joinHalf
  apply BitVec.eq_of_getLsbD_eq
  intro i hi
  rw [BitVec.getLsbD_append]
  split
  · next h8 => simp [h8]
  · next h8 =>
    have : i - 8 < 8 := by omega
    simp [this, Nat.add_sub_cancel' (Nat.le_of_not_lt h8)]

/-- The four bytes of a word, joined again. -/
@[simp] theorem joinWord_wordBytes (w : Word) :
    joinWord (w.extractLsb' 24 8) (w.extractLsb' 16 8) (w.extractLsb' 8 8) (w.extractLsb' 0 8) = w := by
  unfold joinWord
  apply BitVec.eq_of_getLsbD_eq
  intro i hi
  simp only [BitVec.getLsbD_append, BitVec.getLsbD_extractLsb']
  split <;> split <;>
    (rw [decide_eq_true (by omega : _ < 8), Bool.true_and]; congr 1; omega)

@[simp] theorem byteAt_append_left (a b : List Byte) {i : Nat} (h : i < a.length) : byteAt (a ++ b) i = byteAt a i := by
  simp [byteAt, List.getD_eq_getElem?_getD, List.getElem?_append_left h]

theorem byteAt_append_right (a b : List Byte) {i : Nat} (h : a.length ≤ i) : byteAt (a ++ b) i = byteAt b (i - a.length) := by
  simp [byteAt, List.getD_eq_getElem?_getD, List.getElem?_append_right h]

/-- A word laid out after a list of bytes is read back at its offset. -/
theorem wordAt_append (a b : List Byte) (w : Word) (i : Nat) (hi : a.length = i) :
    wordAt (a ++ (wordBytes w ++ b)) i = w := by
  subst hi
  simp [wordAt, byteAt, wordBytes]

/-- A 16-bit field laid out after a list of bytes is read back at its offset. -/
theorem halfAt_append (a b : List Byte) (h : Half) (i : Nat) (hi : a.length = i) :
    halfAt (a ++ (halfBytes h ++ b)) i = h := by
  subst hi
  unfold halfAt
  rw [byteAt_append_right a _ (Nat.le_refl a.length), byteAt_append_right a _ (Nat.le_succ a.length)]
  simp [halfBytes, byteAt]

/-! ## The deframer (R168) -/

theorem rxByte_nothing {s : State} {b : Byte} {d : Deframer} (h : s.deframer.feed b = (d, .nothing)) :
    s.rxByte b = { s with deframer := d } := by simp [State.rxByte, h]

/-- The body bytes of a frame, taken one after the other, bring the deframer to CRC. -/
theorem rxChars_body (s : State) (n : Nat) (rs got : List Byte) (hn : rs ≠ [])
    (hl : got.length + rs.length = 5 + n) :
    { s with deframer := { stage := .body, len := n, got := got } }.rxChars rs =
      { s with deframer := { stage := .crc, len := n, got := got ++ rs } } := by
  induction rs generalizing got with
  | nil => exact absurd rfl hn
  | cons b rest ih =>
    simp only [List.length_cons] at hl
    by_cases hr : rest = []
    · subst hr
      have hg : ¬ got.length + 1 < 5 + n := by simp only [List.length_nil] at hl; omega
      simp [State.rxChars, State.rxByte, Deframer.feed, Deframer.fieldEnd, Deframer.turn, hg]
    · have hpos : 0 < rest.length := List.length_pos_of_ne_nil hr
      have hlt : got.length + 1 < 5 + n := by omega
      have := ih (got ++ [b]) hr (by simp; omega)
      simp only [State.rxChars, List.foldl_cons] at this ⊢
      rw [rxByte_nothing (d := { stage := .body, len := n, got := got ++ [b] })
        (by simp [Deframer.feed, Deframer.fieldEnd, hlt])]
      simpa using this

/-- The characters of a frame with a body of at most 1,024 bytes, received from HUNT, are judged whole; the deframer is back in
HUNT (R168). -/
theorem rxChars_frameWith (s : State) (hs : s.deframer = .initial) (code : Half) (kind : Byte) (body : List Byte) (crc : Half)
    (hb : body.length ≤ 1024) :
    s.rxChars (frameWith code kind body crc) = s.judgeFrame (frameCore code kind body ++ halfBytes crc) := by
  have hlen : (BitVec.ofNat 16 body.length).toNat = body.length := by simp; omega
  have hs' : { s with deframer := .initial } = s := by rw [← hs]
  obtain ⟨l1, l0, hlb⟩ : ∃ l1 l0, natBytes2 body.length = [l1, l0] := ⟨_, _, rfl⟩
  have hjoin : joinHalf l1 l0 = BitVec.ofNat 16 body.length := by
    have : [l1, l0] = halfBytes (BitVec.ofNat 16 body.length) := hlb.symm
    simp only [halfBytes, List.cons.injEq, and_true] at this
    rw [this.1, this.2, joinHalf_halfBytes]
  obtain ⟨c1, c0, hcb⟩ : ∃ c1 c0, halfBytes code = [c1, c0] := ⟨_, _, rfl⟩
  obtain ⟨x1, x0, hxb⟩ : ∃ x1 x0, halfBytes crc = [x1, x0] := ⟨_, _, rfl⟩
  have hhead : s.rxChars ([0xA5, l1, l0, c1, c0, kind]) =
      { s with deframer := { stage := if body.length = 0 then .crc else .body, len := body.length,
                             got := [l1, l0, c1, c0, kind] } } := by
    have hnot : ¬ 1024 < body.length := by omega
    simp [State.rxChars, State.rxByte, Deframer.feed, Deframer.fieldEnd, Deframer.turn, hs, Deframer.initial, halfAt,
      byteAt, hjoin, hnot, Nat.mod_eq_of_lt (show body.length < 65536 by omega)]
  have hcrc : ∀ got : List Byte, got.length = 5 + body.length →
      { s with deframer := { stage := .crc, len := body.length, got := got } }.rxChars [x1, x0] =
        s.judgeFrame (got ++ [x1, x0]) := by
    intro got hg
    have h1 : 5 + body.length + 1 < 7 + body.length := by omega
    have h2 : ¬ 5 + body.length + 1 + 1 < 7 + body.length := by omega
    simp [State.rxChars, State.rxByte, Deframer.feed, Deframer.fieldEnd, Deframer.turn, hg, h1, h2, hs']
  have hsplit : frameWith code kind body crc = [0xA5, l1, l0, c1, c0, kind] ++ (body ++ [x1, x0]) := by
    simp [frameWith, frameCore, hlb, hcb, hxb]
  have hcore : frameCore code kind body ++ halfBytes crc = ([l1, l0, c1, c0, kind] ++ body) ++ [x1, x0] := by
    simp [frameCore, hlb, hcb, hxb]
  rw [hsplit, hcore]
  simp only [State.rxChars, List.foldl_append] at hhead hcrc ⊢
  rw [hhead]
  by_cases hn : body = []
  · subst hn
    simpa using hcrc [l1, l0, c1, c0, kind] rfl
  · have hne : body.length ≠ 0 := by simpa using hn
    have hbody := rxChars_body s body.length body [l1, l0, c1, c0, kind] hn (by simp)
    simp only [State.rxChars] at hbody
    rw [if_neg hne, hbody]
    exact hcrc _ (by simp; omega)

/-! ## Judgement (R170) -/

theorem frameCore_length (code : Half) (kind : Byte) (body : List Byte) :
    (frameCore code kind body).length = 5 + body.length := by simp [frameCore]; omega

/-- A complete frame judged by its parts. -/
theorem judgeFrame_frame (s : State) (code : Half) (kind : Byte) (body : List Byte) (crc : Half) :
    s.judgeFrame (frameCore code kind body ++ halfBytes crc) =
      if crc16 (frameCore code kind body) ≠ crc then s.countBad
      else if s.codeMatches code = false then s.countForeign
      else
        match downKindOf kind with
        | none => s.countBad
        | some k => s.acceptFrame k body := by
  have hn : (frameCore code kind body ++ halfBytes crc).length - 7 = body.length := by
    simp [frameCore_length]
  have htake : (frameCore code kind body ++ halfBytes crc).take (5 + body.length) = frameCore code kind body := by
    rw [← frameCore_length code kind body]; simp
  have hcrc : halfAt (frameCore code kind body ++ halfBytes crc) (5 + body.length) = crc := by
    have := halfAt_append (frameCore code kind body) [] crc (5 + body.length) (frameCore_length ..)
    simpa using this
  have hcode : halfAt (frameCore code kind body ++ halfBytes crc) 2 = code := by
    have := halfAt_append (natBytes2 body.length) ([kind] ++ body ++ halfBytes crc) code 2 rfl
    simpa [frameCore] using this
  have hkind : byteAt (frameCore code kind body ++ halfBytes crc) 4 = kind := by
    simp [frameCore, natBytes2, halfBytes, byteAt]
  have hbody : ((frameCore code kind body ++ halfBytes crc).drop 5).take body.length = body := by
    simp [frameCore, natBytes2, halfBytes]
  simp only [State.judgeFrame, hn, htake, hcrc, hcode, hkind, hbody] <;> rfl

@[simp] theorem downKindOf_downCode (k : DownKind) : downKindOf (downCode k) = some k := by cases k <;> rfl

/-- A frame of a downlink kind, received by a part that listens for its code, is accepted. -/
theorem receive_accepted {s : State} {code : Half} (h : Listening s code) (k : DownKind) {body : List Byte}
    (hb : body.length ≤ 1024) : receive k code body s = .next (s.acceptFrame k body) := by
  obtain ⟨hr, hd, hc⟩ := h
  unfold receive whenRunning
  simp only [hr, Bool.false_eq_true, if_false]
  rw [frameBytes, rxChars_frameWith s hd _ _ _ _ hb, judgeFrame_frame]
  simp [hc]

end Sys2Proof.Machine
end

