-- ==== Sys2Proof/Laws/PerInstr.lean ====
section
/-! SUPPORT. The statements made per command: the frame that a command is carries the command's body, and a well-formed command's
body fits on the line (R168). -/

namespace Sys2Proof.Laws

open Sys2Proof.Machine

/-- The body of the frame that a command is, is the command's; in a well-formed command it is at most 1,024 bytes long. -/
def FrameBody.Statement (i : Instr) : Prop :=
  (∀ k code body, frameOf i = some (k, code, body) → i.frameBody = body) ∧ (i.wf = true → i.frameBody.length ≤ 1024)

/-- The frame that a command is carries the command's body. -/
theorem frameBody_of_frameOf (i : Instr) (k : DownKind) (code : Half) (body : List Byte)
    (h : frameOf i = some (k, code, body)) : i.frameBody = body := by
  cases i <;> simp only [frameOf, Option.some.injEq, Prod.mk.injEq, reduceCtorEq] at h <;> exact h.2.2

/-- The bound of a well-formed command's body (R168). -/
theorem wf_frameBody_le {i : Instr} (h : i.wf = true) : i.frameBody.length ≤ 1024 := by
  simp only [Instr.wf, Bool.and_eq_true, decide_eq_true_eq] at h
  exact h.1

/-- The statement of every command. -/
theorem frameBody_all (i : Instr) : FrameBody.Statement i := ⟨frameBody_of_frameOf i, wf_frameBody_le⟩

theorem FrameBody.powerOnReset : ∀ straps, FrameBody.Statement (.powerOnReset straps) := fun _ => frameBody_all _
theorem FrameBody.tick : FrameBody.Statement .tick := frameBody_all _
theorem FrameBody.verdict : ∀ code body, FrameBody.Statement (.verdict code body) := fun _ _ => frameBody_all _
theorem FrameBody.credit : ∀ code body, FrameBody.Statement (.credit code body) := fun _ _ => frameBody_all _
theorem FrameBody.closeRide : ∀ code body, FrameBody.Statement (.closeRide code body) := fun _ _ => frameBody_all _
theorem FrameBody.loadOpen : ∀ code body, FrameBody.Statement (.loadOpen code body) := fun _ _ => frameBody_all _
theorem FrameBody.loadRows : ∀ code body, FrameBody.Statement (.loadRows code body) := fun _ _ => frameBody_all _
theorem FrameBody.loadSeal : ∀ code body, FrameBody.Statement (.loadSeal code body) := fun _ _ => frameBody_all _
theorem FrameBody.loadAbort : ∀ code body, FrameBody.Statement (.loadAbort code body) := fun _ _ => frameBody_all _
theorem FrameBody.riderBatch : ∀ code body, FrameBody.Statement (.riderBatch code body) := fun _ _ => frameBody_all _
theorem FrameBody.blockBatch : ∀ code body, FrameBody.Statement (.blockBatch code body) := fun _ _ => frameBody_all _
theorem FrameBody.put : FrameBody.Statement .put := frameBody_all _
theorem FrameBody.drop : FrameBody.Statement .drop := frameBody_all _
theorem FrameBody.add : FrameBody.Statement .add := frameBody_all _
theorem FrameBody.remove : FrameBody.Statement .remove := frameBody_all _
theorem FrameBody.epochMark : ∀ code body, FrameBody.Statement (.epochMark code body) := fun _ _ => frameBody_all _
theorem FrameBody.dockOrderRelease : ∀ code body, FrameBody.Statement (.dockOrderRelease code body) := fun _ _ => frameBody_all _
theorem FrameBody.dockOrderRelatch : ∀ code body, FrameBody.Statement (.dockOrderRelatch code body) := fun _ _ => frameBody_all _
theorem FrameBody.outOfService : ∀ code body, FrameBody.Statement (.outOfService code body) := fun _ _ => frameBody_all _
theorem FrameBody.inService : ∀ code body, FrameBody.Statement (.inService code body) := fun _ _ => frameBody_all _
theorem FrameBody.headPass : ∀ code body, FrameBody.Statement (.headPass code body) := fun _ _ => frameBody_all _
theorem FrameBody.queryDockRows : ∀ code body, FrameBody.Statement (.queryDockRows code body) := fun _ _ => frameBody_all _
theorem FrameBody.queryClassRows : ∀ code body, FrameBody.Statement (.queryClassRows code body) := fun _ _ => frameBody_all _
theorem FrameBody.queryParamRows : ∀ code body, FrameBody.Statement (.queryParamRows code body) := fun _ _ => frameBody_all _
theorem FrameBody.queryKey : ∀ code body, FrameBody.Statement (.queryKey code body) := fun _ _ => frameBody_all _
theorem FrameBody.queryRider : ∀ code body, FrameBody.Statement (.queryRider code body) := fun _ _ => frameBody_all _
theorem FrameBody.queryBlockList : ∀ code body, FrameBody.Statement (.queryBlockList code body) := fun _ _ => frameBody_all _
theorem FrameBody.queryReleaseList : ∀ code body, FrameBody.Statement (.queryReleaseList code body) := fun _ _ => frameBody_all _
theorem FrameBody.queryDockContexts : ∀ code body, FrameBody.Statement (.queryDockContexts code body) := fun _ _ => frameBody_all _
theorem FrameBody.queryCounters : ∀ code body, FrameBody.Statement (.queryCounters code body) := fun _ _ => frameBody_all _
theorem FrameBody.queryCounterClear : ∀ code body, FrameBody.Statement (.queryCounterClear code body) := fun _ _ => frameBody_all _
theorem FrameBody.stationResetRuntime : ∀ code body, FrameBody.Statement (.stationResetRuntime code body) := fun _ _ => frameBody_all _
theorem FrameBody.stationResetFull : ∀ code body, FrameBody.Statement (.stationResetFull code body) := fun _ _ => frameBody_all _
theorem FrameBody.badFrame : ∀ code kind body crc, FrameBody.Statement (.badFrame code kind body crc) := fun _ _ _ _ => frameBody_all _
theorem FrameBody.foreignFrame : ∀ code kind body, FrameBody.Statement (.foreignFrame code kind body) := fun _ _ _ => frameBody_all _
theorem FrameBody.lengthOversize : ∀ length, FrameBody.Statement (.lengthOversize length) := fun _ => frameBody_all _
theorem FrameBody.frameGapTimeout : ∀ chars, FrameBody.Statement (.frameGapTimeout chars) := fun _ => frameBody_all _
theorem FrameBody.framingError : ∀ chars, FrameBody.Statement (.framingError chars) := fun _ => frameBody_all _
theorem FrameBody.presenceTimerExpiry : FrameBody.Statement .presenceTimerExpiry := frameBody_all _
theorem FrameBody.referralTimerExpiry : ∀ release, FrameBody.Statement (.referralTimerExpiry release) := fun _ => frameBody_all _
theorem FrameBody.liftTimerExpiry : ∀ release, FrameBody.Statement (.liftTimerExpiry release) := fun _ => frameBody_all _
theorem FrameBody.localEpochTimerExpiry : FrameBody.Statement .localEpochTimerExpiry := frameBody_all _
theorem FrameBody.pollSend : ∀ m, FrameBody.Statement (.pollSend m) := fun _ => frameBody_all _
theorem FrameBody.ordinaryExchangeEnd : ∀ m rx, FrameBody.Statement (.ordinaryExchangeEnd m rx) := fun _ _ => frameBody_all _
theorem FrameBody.passExchangeEnd : ∀ m rx, FrameBody.Statement (.passExchangeEnd m rx) := fun _ _ => frameBody_all _
theorem FrameBody.lineStuck : ∀ m, FrameBody.Statement (.lineStuck m) := fun _ => frameBody_all _
theorem FrameBody.breakPulsesDone : ∀ m, FrameBody.Statement (.breakPulsesDone m) := fun _ => frameBody_all _
theorem FrameBody.recoveryTimerExpiry : ∀ m, FrameBody.Statement (.recoveryTimerExpiry m) := fun _ => frameBody_all _
theorem FrameBody.transmitStart : ∀ linkReady, FrameBody.Statement (.transmitStart linkReady) := fun _ => frameBody_all _
theorem FrameBody.transmitEnd : FrameBody.Statement .transmitEnd := frameBody_all _
theorem FrameBody.resetnAsserted : FrameBody.Statement .resetnAsserted := frameBody_all _
theorem FrameBody.pollLastCharacterEnd : ∀ m, FrameBody.Statement (.pollLastCharacterEnd m) := fun _ => frameBody_all _
theorem FrameBody.dockOrderBadAction : ∀ code body, FrameBody.Statement (.dockOrderBadAction code body) := fun _ _ => frameBody_all _

end Sys2Proof.Laws
end

