-- ==== Sys2Proof/Laws/Reads.lean ====
section
/-! SUPPORT. What the named updates leave of the readings of one dock, one string and one rider. -/

namespace Sys2Proof.Machine

/-! ## The readings, by the fields they read -/

theorem ctx_congr {s t : State} (h : t.ctxs = s.ctxs) (e : DockNo) : t.ctx e = s.ctx e := congrArg (fun v => Vector.get v e) h

theorem desc_congr {s t : State} (h : t.descs = s.descs) (e : DockNo) : t.desc e = s.desc e :=
  congrArg (fun v => Vector.get v e) h

theorem polled_congr {s t : State} (h : t.descs = s.descs) (hp : t.params = s.params) (e : DockNo) : t.polled e = s.polled e :=
  congrArg₂ (fun v p => polledOn (Vector.get v e) p e) h hp

theorem lookup_congr {s t : State} (h : t.riders = s.riders) (q : Key) : t.lookup q = s.lookup q :=
  congrArg (fun v => (wayOf (Vector.get v (bucketOf q)) q).bind fun w => Vector.get (Vector.get v (bucketOf q)) w) h

theorem str_congr {s t : State} (ha : t.stringA = s.stringA) (hb : t.stringB = s.stringB) : ∀ n : StringId, t.str n = s.str n
  | .a => ha
  | .b => hb

/-! ## offer -/

@[simp] theorem offer_ctx (s : State) (f : Uplink) (e : DockNo) : (s.offer f).ctx e = s.ctx e :=
  ctx_congr (offer_ctxs s f) e

@[simp] theorem offer_desc (s : State) (f : Uplink) (e : DockNo) : (s.offer f).desc e = s.desc e :=
  desc_congr (offer_descs s f) e

@[simp] theorem offer_polled (s : State) (f : Uplink) (e : DockNo) : (s.offer f).polled e = s.polled e :=
  polled_congr (offer_descs s f) (offer_params s f) e

@[simp] theorem offer_lookup (s : State) (f : Uplink) (q : Key) : (s.offer f).lookup q = s.lookup q :=
  lookup_congr (offer_riders s f) q

@[simp] theorem offer_str (s : State) (f : Uplink) (q : StringId) : (s.offer f).str q = s.str q :=
  str_congr (offer_stringA s f) (offer_stringB s f) q

/-! ## modRider -/

@[simp] theorem modRider_ctx (s : State) (k : Key) (f : RiderEntry → RiderEntry) (e : DockNo) : (s.modRider k f).ctx e = s.ctx e :=
  ctx_congr (modRider_ctxs s k f) e

@[simp] theorem modRider_desc (s : State) (k : Key) (f : RiderEntry → RiderEntry) (e : DockNo) : (s.modRider k f).desc e = s.desc e :=
  desc_congr (modRider_descs s k f) e

@[simp] theorem modRider_polled (s : State) (k : Key) (f : RiderEntry → RiderEntry) (e : DockNo) : (s.modRider k f).polled e = s.polled e :=
  polled_congr (modRider_descs s k f) (modRider_params s k f) e

@[simp] theorem modRider_str (s : State) (k : Key) (f : RiderEntry → RiderEntry) (q : StringId) : (s.modRider k f).str q = s.str q :=
  str_congr (modRider_stringA s k f) (modRider_stringB s k f) q

/-! ## dropRider -/

@[simp] theorem dropRider_ctx (s : State) (k : Key) (e : DockNo) : (s.dropRider k).ctx e = s.ctx e :=
  ctx_congr (dropRider_ctxs s k) e

@[simp] theorem dropRider_desc (s : State) (k : Key) (e : DockNo) : (s.dropRider k).desc e = s.desc e :=
  desc_congr (dropRider_descs s k) e

@[simp] theorem dropRider_polled (s : State) (k : Key) (e : DockNo) : (s.dropRider k).polled e = s.polled e :=
  polled_congr (dropRider_descs s k) (dropRider_params s k) e

@[simp] theorem dropRider_str (s : State) (k : Key) (q : StringId) : (s.dropRider k).str q = s.str q :=
  str_congr (dropRider_stringA s k) (dropRider_stringB s k) q

/-! ## dropTest -/

@[simp] theorem dropTest_ctx (s : State) (k : Option Key) (e : DockNo) : (s.dropTest k).ctx e = s.ctx e :=
  ctx_congr (dropTest_ctxs s k) e

@[simp] theorem dropTest_desc (s : State) (k : Option Key) (e : DockNo) : (s.dropTest k).desc e = s.desc e :=
  desc_congr (dropTest_descs s k) e

@[simp] theorem dropTest_polled (s : State) (k : Option Key) (e : DockNo) : (s.dropTest k).polled e = s.polled e :=
  polled_congr (dropTest_descs s k) (dropTest_params s k) e

@[simp] theorem dropTest_str (s : State) (k : Option Key) (q : StringId) : (s.dropTest k).str q = s.str q :=
  str_congr (dropTest_stringA s k) (dropTest_stringB s k) q

/-! ## refundFor -/

@[simp] theorem refundFor_ctx (s : State) (r : Record) (e : DockNo) : (s.refundFor r).ctx e = s.ctx e :=
  ctx_congr (refundFor_ctxs s r) e

@[simp] theorem refundFor_desc (s : State) (r : Record) (e : DockNo) : (s.refundFor r).desc e = s.desc e :=
  desc_congr (refundFor_descs s r) e

@[simp] theorem refundFor_polled (s : State) (r : Record) (e : DockNo) : (s.refundFor r).polled e = s.polled e :=
  polled_congr (refundFor_descs s r) (refundFor_params s r) e

@[simp] theorem refundFor_str (s : State) (r : Record) (q : StringId) : (s.refundFor r).str q = s.str q :=
  str_congr (refundFor_stringA s r) (refundFor_stringB s r) q

/-! ## addRecord -/

@[simp] theorem addRecord_ctx (s : State) (r : Record) (e : DockNo) : (s.addRecord r).ctx e = s.ctx e :=
  ctx_congr (addRecord_ctxs s r) e

@[simp] theorem addRecord_desc (s : State) (r : Record) (e : DockNo) : (s.addRecord r).desc e = s.desc e :=
  desc_congr (addRecord_descs s r) e

@[simp] theorem addRecord_polled (s : State) (r : Record) (e : DockNo) : (s.addRecord r).polled e = s.polled e :=
  polled_congr (addRecord_descs s r) (addRecord_params s r) e

@[simp] theorem addRecord_lookup (s : State) (r : Record) (q : Key) : (s.addRecord r).lookup q = s.lookup q :=
  lookup_congr (addRecord_riders s r) q

@[simp] theorem addRecord_str (s : State) (r : Record) (q : StringId) : (s.addRecord r).str q = s.str q :=
  str_congr (addRecord_stringA s r) (addRecord_stringB s r) q

/-! ## eraseRecord -/

@[simp] theorem eraseRecord_ctx (s : State) (n : Half) (e : DockNo) : (s.eraseRecord n).ctx e = s.ctx e :=
  ctx_congr (eraseRecord_ctxs s n) e

@[simp] theorem eraseRecord_desc (s : State) (n : Half) (e : DockNo) : (s.eraseRecord n).desc e = s.desc e :=
  desc_congr (eraseRecord_descs s n) e

@[simp] theorem eraseRecord_polled (s : State) (n : Half) (e : DockNo) : (s.eraseRecord n).polled e = s.polled e :=
  polled_congr (eraseRecord_descs s n) (eraseRecord_params s n) e

@[simp] theorem eraseRecord_lookup (s : State) (n : Half) (q : Key) : (s.eraseRecord n).lookup q = s.lookup q :=
  lookup_congr (eraseRecord_riders s n) q

@[simp] theorem eraseRecord_str (s : State) (n : Half) (q : StringId) : (s.eraseRecord n).str q = s.str q :=
  str_congr (eraseRecord_stringA s n) (eraseRecord_stringB s n) q

/-! ## modRecord -/

@[simp] theorem modRecord_ctx (s : State) (n : Half) (f : Record → Record) (e : DockNo) : (s.modRecord n f).ctx e = s.ctx e :=
  ctx_congr (modRecord_ctxs s n f) e

@[simp] theorem modRecord_desc (s : State) (n : Half) (f : Record → Record) (e : DockNo) : (s.modRecord n f).desc e = s.desc e :=
  desc_congr (modRecord_descs s n f) e

@[simp] theorem modRecord_polled (s : State) (n : Half) (f : Record → Record) (e : DockNo) : (s.modRecord n f).polled e = s.polled e :=
  polled_congr (modRecord_descs s n f) (modRecord_params s n f) e

@[simp] theorem modRecord_lookup (s : State) (n : Half) (f : Record → Record) (q : Key) : (s.modRecord n f).lookup q = s.lookup q :=
  lookup_congr (modRecord_riders s n f) q

@[simp] theorem modRecord_str (s : State) (n : Half) (f : Record → Record) (q : StringId) : (s.modRecord n f).str q = s.str q :=
  str_congr (modRecord_stringA s n f) (modRecord_stringB s n f) q

/-! ## setStr -/

@[simp] theorem setStr_ctx (s : State) (m : StringId) (x : StringMaster) (e : DockNo) : (s.setStr m x).ctx e = s.ctx e :=
  ctx_congr (setStr_ctxs s m x) e

@[simp] theorem setStr_desc (s : State) (m : StringId) (x : StringMaster) (e : DockNo) : (s.setStr m x).desc e = s.desc e :=
  desc_congr (setStr_descs s m x) e

@[simp] theorem setStr_polled (s : State) (m : StringId) (x : StringMaster) (e : DockNo) : (s.setStr m x).polled e = s.polled e :=
  polled_congr (setStr_descs s m x) (setStr_params s m x) e

@[simp] theorem setStr_lookup (s : State) (m : StringId) (x : StringMaster) (q : Key) : (s.setStr m x).lookup q = s.lookup q :=
  lookup_congr (setStr_riders s m x) q

/-! ## modCtx -/

@[simp] theorem modCtx_desc (s : State) (d : DockNo) (f : DockContext → DockContext) (e : DockNo) : (s.modCtx d f).desc e = s.desc e :=
  desc_congr (modCtx_descs s d f) e

@[simp] theorem modCtx_polled (s : State) (d : DockNo) (f : DockContext → DockContext) (e : DockNo) : (s.modCtx d f).polled e = s.polled e :=
  polled_congr (modCtx_descs s d f) (modCtx_params s d f) e

@[simp] theorem modCtx_lookup (s : State) (d : DockNo) (f : DockContext → DockContext) (q : Key) : (s.modCtx d f).lookup q = s.lookup q :=
  lookup_congr (modCtx_riders s d f) q

@[simp] theorem modCtx_str (s : State) (d : DockNo) (f : DockContext → DockContext) (q : StringId) : (s.modCtx d f).str q = s.str q :=
  str_congr (modCtx_stringA s d f) (modCtx_stringB s d f) q

/-! ## mapCtxs -/

@[simp] theorem mapCtxs_desc (s : State) (f : DockNo → DockContext → DockContext) (e : DockNo) : (s.mapCtxs f).desc e = s.desc e :=
  desc_congr (mapCtxs_descs s f) e

@[simp] theorem mapCtxs_polled (s : State) (f : DockNo → DockContext → DockContext) (e : DockNo) : (s.mapCtxs f).polled e = s.polled e :=
  polled_congr (mapCtxs_descs s f) (mapCtxs_params s f) e

@[simp] theorem mapCtxs_lookup (s : State) (f : DockNo → DockContext → DockContext) (q : Key) : (s.mapCtxs f).lookup q = s.lookup q :=
  lookup_congr (mapCtxs_riders s f) q

@[simp] theorem mapCtxs_str (s : State) (f : DockNo → DockContext → DockContext) (q : StringId) : (s.mapCtxs f).str q = s.str q :=
  str_congr (mapCtxs_stringA s f) (mapCtxs_stringB s f) q

/-! ## countBad -/

@[simp] theorem countBad_ctx (s : State) (e : DockNo) : (s.countBad).ctx e = s.ctx e :=
  ctx_congr (countBad_ctxs s) e

@[simp] theorem countBad_desc (s : State) (e : DockNo) : (s.countBad).desc e = s.desc e :=
  desc_congr (countBad_descs s) e

@[simp] theorem countBad_polled (s : State) (e : DockNo) : (s.countBad).polled e = s.polled e :=
  polled_congr (countBad_descs s) (countBad_params s) e

@[simp] theorem countBad_lookup (s : State) (q : Key) : (s.countBad).lookup q = s.lookup q :=
  lookup_congr (countBad_riders s) q

@[simp] theorem countBad_str (s : State) (q : StringId) : (s.countBad).str q = s.str q :=
  str_congr (countBad_stringA s) (countBad_stringB s) q

/-! ## startPresence -/

@[simp] theorem startPresence_ctx (s : State) (e : DockNo) : (s.startPresence).ctx e = s.ctx e :=
  ctx_congr (startPresence_ctxs s) e

@[simp] theorem startPresence_desc (s : State) (e : DockNo) : (s.startPresence).desc e = s.desc e :=
  desc_congr (startPresence_descs s) e

@[simp] theorem startPresence_polled (s : State) (e : DockNo) : (s.startPresence).polled e = s.polled e :=
  polled_congr (startPresence_descs s) (startPresence_params s) e

@[simp] theorem startPresence_lookup (s : State) (q : Key) : (s.startPresence).lookup q = s.lookup q :=
  lookup_congr (startPresence_riders s) q

@[simp] theorem startPresence_str (s : State) (q : StringId) : (s.startPresence).str q = s.str q :=
  str_congr (startPresence_stringA s) (startPresence_stringB s) q

end Sys2Proof.Machine
end

