-- ==== Sys2Proof/Laws/Releases.lean ====
section
/-! SUPPORT. The records of a Release List that matches its docks: each is found by its number, its dock, its timer and the verdict
that names it, and a dock that no record names has none. -/

namespace Sys2Proof.Machine

/-- The one member of a list that meets a test is what `find?` finds. -/
theorem find?_eq_of_unique {α : Type} {l : List α} {p : α → Bool} {a : α} (ha : a ∈ l) (hp : p a = true)
    (hu : ∀ b ∈ l, p b = true → b = a) : l.find? p = some a := by
  cases h : l.find? p with
  | none => exact absurd hp (by simpa using List.find?_eq_none.mp h a ha)
  | some b => rw [hu b (List.mem_of_find?_eq_some h) (List.find?_some h)]

/-- Two members of a list with the same value of a key that no two share are the same. -/
theorem eq_of_nodup_map {α β : Type} {l : List α} {f : α → β} (h : (l.map f).Nodup) {a b : α} (ha : a ∈ l) (hb : b ∈ l)
    (hf : f a = f b) : a = b := List.inj_on_of_nodup_map h ha hb hf

variable {s : State}

theorem ReleasesSound.docks (h : ReleasesSound s) : RecordsMatchDocks s := h.1

theorem recordAt_eq (h : RecordsMatchDocks s) {r : Record} (hr : r ∈ s.records) : s.recordAt r.dock = some r :=
  find?_eq_of_unique hr (by simp) fun b hb hd => eq_of_nodup_map h.2.2.1 hb hr (by simpa using hd)

theorem recordNo_eq (h : RecordsMatchDocks s) {r : Record} (hr : r ∈ s.records) : s.recordNo r.number = some r :=
  find?_eq_of_unique hr (by simp) fun b hb hd => eq_of_nodup_map h.2.1 hb hr (by simpa using hd)

theorem expired_eq (h : RecordsMatchDocks s) {r : Record} (hr : r ∈ s.records) {t : RecTimer} (ht : r.timer = t) :
    s.expired r.number t = some r :=
  find?_eq_of_unique hr (by simp [ht]) fun b hb hd =>
    eq_of_nodup_map h.2.1 hb hr (by simp only [Bool.and_eq_true, beq_iff_eq] at hd; exact hd.1)

theorem recordAt_none (h : RecordsMatchDocks s) {d : DockNo} (hd : ¬Held (s.ctx d)) : s.recordAt d = none := by
  refine List.find?_eq_none.mpr fun r hr hrd => hd ?_
  have := (h.2.2.2.1 r hr).1
  rw [show r.dock = d by simpa using hrd] at this
  unfold Held
  cases hs : r.state <;> simp_all [stateOfRecord]

/-- The state of a dock by the record that names it. -/
theorem state_of_record (h : RecordsMatchDocks s) {r : Record} (hr : r ∈ s.records) :
    (s.ctx r.dock).state = stateOfRecord r.state := (h.2.2.2.1 r hr).1

/-- The removal of the record that names a dock. -/
theorem removeAt_eq (h : RecordsMatchDocks s) {r : Record} (hr : r ∈ s.records) (refund : Bool)
    (report : Option (RelOutcome × ReportDetail)) (move : State → State) :
    s.removeAt r.dock refund report move = s.removeRecord r refund report move := by
  simp [State.removeAt, recordAt_eq h hr]

/-- Records match their docks after an acceptance, and the Release List is as sound as before. -/
theorem releasesSound_of_eq {t : State} (h : ReleasesSound s) (hr : t.records = s.records) (hc : ∀ d, (t.ctx d).state =
    (s.ctx d).state ∧ (t.ctx d).record = (s.ctx d).record) (hp : ∀ d, t.polled d = s.polled d)
    (hl : ∀ k, t.lookup k = s.lookup k) : ReleasesSound t := by
  obtain ⟨⟨h1, h2, h3, h4, h5, h6, h7⟩, h8, h9⟩ := h
  refine ⟨⟨hr ▸ h1, hr ▸ h2, hr ▸ h3, ?_, ?_, ?_, ?_⟩, hr ▸ h8, ?_⟩
  · intro r hm
    rw [(hc _).1, (hc _).2]
    exact h4 r (hr ▸ hm)
  · intro d hd
    rw [hr]
    exact h5 d (by unfold Held at *; rwa [(hc d).1] at hd)
  · intro d hd
    have := h6 d (by rwa [(hc d).2] at hd)
    unfold Held at *
    rwa [(hc d).1]
  · intro d
    rw [(hc d).1, hp]
    exact h7 d
  · intro r hm
    have := h9 r (hr ▸ hm)
    exact ⟨this.1, fun hcn => by obtain ⟨k, hk, hs⟩ := this.2 hcn; exact ⟨k, hk, by rw [hl]; exact hs⟩⟩

end Sys2Proof.Machine
end

