-- ==== Sys2Proof/Tests/Slice0.lean ====
section
/-! SUPPORT. The model's own tests: figures the manual gives, one step each of its worked cases, the well-formedness check, and
for every statement with hypotheses a state that meets them. -/

namespace Sys2Proof.Machine

section

-- one theorem after the other: each runs on a thread with a large stack
set_option Elab.async false

/-! ## Well-formedness: each check refuses a term -/

theorem test_wf_accepts : (Instr.verdict 77 (List.replicate 11 0)).wf = true ∧ (Instr.foreignFrame 1 0 (List.replicate 1024 0)).wf = true := by
  decide +kernel
theorem test_wf_body_too_long : (Instr.loadRows 77 (List.replicate 1025 0)).wf = false := by decide +kernel
theorem test_wf_order_action : (Instr.dockOrderRelease 77 [2, 2]).wf = false ∧ (Instr.dockOrderRelatch 77 [2, 1]).wf = false ∧
    (Instr.outOfService 77 [2, 4]).wf = false ∧ (Instr.inService 77 [2, 3]).wf = false ∧
    (Instr.dockOrderBadAction 77 [2, 4]).wf = false ∧ (Instr.dockOrderBadAction 77 [2, 5]).wf = true := by decide +kernel
theorem test_wf_query_target : (Instr.queryDockRows 77 [2, 0, 0, 1, 0]).wf = false ∧
    (Instr.queryClassRows 77 [1, 0, 0, 1, 0]).wf = false ∧ (Instr.queryParamRows 77 [4, 0, 0, 1, 0]).wf = false ∧
    (Instr.queryKey 77 [3, 0, 0, 1, 0]).wf = false ∧ (Instr.queryRider 77 [6, 0, 0, 0, 5]).wf = false ∧
    (Instr.queryBlockList 77 [7, 0, 0, 1, 0]).wf = false ∧ (Instr.queryReleaseList 77 [8, 0, 0, 1, 0]).wf = false ∧
    (Instr.queryDockContexts 77 [9, 0, 0, 1, 0]).wf = false := by decide +kernel
theorem test_wf_clear_flag : (Instr.queryCounters 77 [9, 0, 0, 0, 1]).wf = false ∧
    (Instr.queryCounterClear 77 [9, 0, 0, 0, 0]).wf = false := by decide +kernel
theorem test_wf_reset_scope : (Instr.stationResetRuntime 77 [2]).wf = false ∧ (Instr.stationResetFull 77 [1]).wf = false := by
  decide +kernel
theorem test_wf_length : (Instr.lengthOversize 1024).wf = false ∧ (Instr.lengthOversize 1025).wf = true := by decide +kernel
theorem test_wf_reply_window : (Instr.ordinaryExchangeEnd .a (List.replicate 38 0)).wf = false ∧
    (Instr.passExchangeEnd .b (List.replicate 38 0)).wf = false := by decide +kernel

/-! ## Figures of the manual -/

/-- R170: over the nine bytes 31h to 39h the CRC is 29B1h. -/
theorem test_crc : crc16 [0x31, 0x32, 0x33, 0x34, 0x35, 0x36, 0x37, 0x38, 0x39] = 0x29B1 := by decide +kernel
/-- R5: a sum whose true value is 2^32 gives 1. -/
theorem test_end_around : addEndAround 0xFFFFFFFF 1 = 1 ∧ addEndAround 0xFFFFFFFF 0xFFFFFFFF = 0xFFFFFFFF ∧ addEndAround 0 0 = 0 := by
  decide +kernel
/-- R6: rotation by whole bytes. -/
theorem test_rotate : rotateBytes 0x11223344 1 = 0x22334411 ∧ rotateBytes 0x11223344 3 = 0x44112233 := by decide +kernel
/-- 2.2, worked case: bucket indexes. -/
theorem test_buckets : [123456, 1, 1024, 1025, 1048576, 4294967295].map (fun k : Key => (bucketOf k).val) =
    [568, 1, 1, 0, 1, 1023] := by decide +kernel
/-- 2.4, worked case: one rider's window. -/
theorem test_window : judgeSeq (some 5) [5, 3] 7 = .accepted 7 [7, 5, 3] ∧
    judgeSeq (some 7) [7, 5, 3] 4 = .accepted 7 [7, 5, 4, 3] ∧ judgeSeq (some 7) [7, 5, 4, 3] 4 = .replay ∧
    judgeSeq (some 7) [7, 5, 4, 3] 65530 = .accepted 7 [7, 5, 4, 3, 65530] ∧
    judgeSeq (some 7) [7, 5, 4, 3, 65530] 65520 = .stale ∧
    judgeSeq (some 7) [7, 5, 4, 3, 65530] 8 = .accepted 8 [8, 7, 5, 4, 3, 65530] ∧
    judgeSeq (some 8) [8, 7, 5, 4, 3, 65530] 30 = .accepted 30 [30] ∧ judgeSeq (some 30) [30] 7 = .stale ∧
    judgeSeq (some 30) [30] 20 = .accepted 30 [30, 20] := by decide +kernel

/-! ## A small station 77 -/

/-- The key row and the token of the fold case of chapter 1. -/
def foldKey : KeyRow :=
  { valid := true, k0 := 0x0F0F0F0F, k1 := 0x00FF00FF, k2 := 0x12345678, k3 := 0xFFFF0000, k4 := 0x80000001 }
def foldToken : Token := { w0 := 0x0001E240, w1 := 0x00071A2B, w2 := 0x01010600, w3 := 0x004DFFFF, tag := 0xD7A18786 }

/-- Rider 123,456 of 11.1 with one bicycle out. -/
def someRider : RiderEntry :=
  { key := 123456, cls := 1, allowance := 2, bikesOut := 1, review := false, pinned := false, provisional := false,
    dropPending := false, top := some 6, used := [6, 4], lastUse := 0x1A00 }

def polledDock (aliasNo : Byte) (mode : IslandedMode) : DockDesc :=
  { kind := .standard, aliasNo := aliasNo, minLevel := 0, localMask := 1, islandedMask := 5, mode := mode }

def dockIn (state : DockState) (record : Option Half) : DockContext :=
  { DockContext.blank with state := state, record := record, bikePresent := .present, latch := .closed, serial := 10 }

def testDesc (d : DockNo) : DockDesc :=
  if d.val ≤ 5 then polledDock (natByte (d.val + 1)) .mask else if d.val = 24 then polledDock 1 .close else .blank

def testCtx (d : DockNo) : DockContext :=
  match d.val with
  | 0 => dockIn .holding none
  | 1 => { dockIn .vacant none with bikePresent := .absent }
  | 2 => dockIn .checking (some 402)
  | 3 => { dockIn .opening (some 403) with order := some .unlatch, tries := 3 }
  | 4 => { dockIn .opened (some 404) with latch := .opened }
  | 5 => { dockIn .closed none with latch := .opened }
  | 24 => dockIn .holding none
  | _ => .blank

def referred : Record :=
  { number := 402, dock := 2, rider := some 123456, state := .referred, source := none, cond := some 0, cls := some 1,
    seq := some 7, charged := false, counted := false, bikeId := none, timer := .referral 0 }
def opening : Record :=
  { number := 403, dock := 3, rider := some 123456, state := .opening, source := some .localGrant, cond := some 0,
    cls := some 1, seq := some 6, charged := true, counted := true, bikeId := none, timer := .none }
def opened : Record :=
  { number := 404, dock := 4, rider := none, state := .opened, source := some .remote, cond := none, cls := none,
    seq := none, charged := false, counted := false, bikeId := none, timer := .lift 0 }

def testRiders : Vector Bucket 1024 :=
  (Vector.replicate 1024 (.replicate 4 none)).set (568 : Fin 1024) ((Vector.replicate 4 none).set (0 : Fin 4) (some someRider))

/-- Station 77, ONLINE at epoch 1A2Eh: docks 0 to 5 on string A, dock 24 of mode CLOSE on string B, three records, one
rider. -/
def station : State :=
  { State.reset with
    stationCode := 77, uplink := [], condition := .online, presence := some 0, epochValid := true, epoch := 0x1A2E,
    epochTimer := some 0, descs := tabulate testDesc, ctxs := tabulate testCtx,
    classes := #v[⟨1, false, true⟩, ⟨2, true, true⟩, ⟨3, true, false⟩, ⟨3, true, false⟩],
    keys := .set (.replicate 4 .blank) 1 foldKey,
    riders := testRiders,
    blocks := [{ key := 9, expiry := 0x1A2F }, { key := 77, expiry := 0x1A30 }], records := [referred, opening, opened],
    nextNumber := 403, stringA := { StringMaster.initial with line := .clearing },
    stringB := { StringMaster.initial with line := .clearing } }

theorem station_bucket (b : Fin 1024) (w : Fin 4) (e : RiderEntry) (h : (station.bucket b).get w = some e) :
    b = 568 ∧ w = 0 ∧ e = someRider := by
  by_cases hb : (568 : Fin 1024) = b
  · subst hb
    have hx : station.bucket 568 = (Vector.replicate 4 none).set (0 : Fin 4) (some someRider) := by
      unfold State.bucket; show testRiders.get 568 = _; unfold testRiders; exact vector_get_set_self _ _ _
    rw [hx] at h
    by_cases hw : (0 : Fin 4) = w
    · subst hw; rw [vector_get_set_self] at h; exact ⟨rfl, rfl, (Option.some.inj h).symm⟩
    · rw [vector_get_set_ne _ hw] at h; simp [Vector.get] at h
  · have hx : station.bucket b = .replicate 4 none := by
      unfold State.bucket; show testRiders.get b = _; unfold testRiders
      refine (vector_get_set_ne _ hb _).trans ?_; simp [Vector.get]
    rw [hx] at h; simp [Vector.get] at h

theorem someRider_window : WindowSound someRider := by simp [WindowSound, someRider]

theorem station_riders : RiderTableSound station := by
  constructor
  · intro b w e h
    obtain ⟨rfl, rfl, rfl⟩ := station_bucket b w e h
    exact ⟨⟨by decide, by decide, by decide, someRider_window⟩, by decide +kernel⟩
  · intro b w w' e e' h h' _
    exact (station_bucket b w e h).2.1.trans (station_bucket b w' e' h').2.1.symm

theorem station_docks : RecordsMatchDocks station := by unfold RecordsMatchDocks Held; decide +kernel

theorem station_releases' {s : State} (hr : s.records = station.records) (hk : s.riders = station.riders)
    (hd : RecordsMatchDocks s) : ReleasesSound s := by
  have hl : ∀ k, s.lookup k = station.lookup k := fun k => by simp only [State.lookup, State.bucket, hk]
  refine ⟨hd, ?_, ?_⟩ <;> intro r h <;> rw [hr] at h <;>
    simp only [station, List.mem_cons, List.not_mem_nil, or_false] at h <;> rcases h with rfl | rfl | rfl
  · exact ⟨rfl, rfl, rfl, rfl, rfl, 0, rfl⟩
  · exact ⟨rfl, rfl⟩
  · exact ⟨rfl, 0, rfl⟩
  · exact ⟨by decide, fun h => absurd h (by decide)⟩
  · exact ⟨by decide, fun _ => ⟨123456, rfl, by rw [hl]; decide +kernel⟩⟩
  · exact ⟨by decide, fun h => absurd h (by decide)⟩

theorem station_releases : ReleasesSound station := station_releases' rfl rfl station_docks

theorem station_listens : Listening station 77 := ⟨rfl, rfl, by decide +kernel⟩

theorem station_records : referred ∈ station.records ∧ opening ∈ station.records ∧ opened ∈ station.records := by decide


/-- What a command leaves. -/
def leaves (i : Instr) (s : State) : State := match exec i s with | .next t => t | .fault _ => s | .refused _ => s

/-! ## One step of the worked cases -/

/-- 1.4, worked cases: the fold of a token at station 77, and an altered scope. -/
theorem test_fold : foldTag foldToken foldKey = 0xD7A18786 ∧ foldTag { foldToken with w3 := 0x004D0005 } foldKey = 0xDDA18686 := by
  decide +kernel
/-- 1.8: the token passes at station 77 at age 3; WRONG_STATION at station 78. -/
theorem test_token : (station.tokenCheck 0 foldToken matches .ok false) = true ∧
    ({ station with stationCode := 78 }.tokenCheck 0 foldToken matches .error .wrongStation) = true := by decide +kernel
/-- The station without records, after the tap of 11.1 at dock 0. -/
def tapped : State := { station with records := [] }.admitTap 0 foldToken

/-- 11.1, tick 0: a LOCAL grant, charged and counted, with UNLATCH 11 and GREEN. -/
theorem test_local_grant :
    ((tapped.ctx 0).state = .opening ∧ (tapped.ctx 0).order = some .unlatch ∧ (tapped.ctx 0).serial = 11 ∧
      (tapped.ctx 0).indicator = .green) ∧
    tapped.records = [{ opening with dock := 0, seq := some 7 }] ∧
    tapped.lookup 123456 =
      some { someRider with allowance := 1, bikesOut := 2, top := some 7, used := [7, 6, 4], lastUse := 0x1A2E } := by
  decide +kernel
/-- 11.1, tick 206: a lift timeout leaves RELATCH, DARK and relatch owed. -/
theorem test_lift_timeout :
    (let t := leaves (.liftTimerExpiry 404) station
     (t.ctx 4).state = .holding ∧ (t.ctx 4).order = some .relatch ∧ (t.ctx 4).serial = 11 ∧
     (t.ctx 4).owed = some { release := 404, rider := none, charged := false } ∧ t.records.length = 2 ∧
     t.uplink.length = 1) := by decide +kernel
/-- 11.1, tick 45: a referral timer settles its record as a FALLBACK grant. -/
theorem test_fallback :
    (let t := leaves (.referralTimerExpiry 402) station
     (t.ctx 2).state = .opening ∧ t.records.map (fun r => (r.number, r.source, r.charged, r.counted)) =
       [(402, some .fallback, false, true), (403, some .localGrant, true, true), (404, some .remote, false, false)] ∧
     t.uplink = []) := by decide +kernel
/-- 10.5, R180: power-on queues one STATION_STATE and leaves the station ISLANDED. -/
theorem test_power_on :
    (let t := leaves (.powerOnReset 77) { station with resetnLow := true }
     t.stationCode = 77 ∧ t.condition = .islanded ∧ t.uplink = [.stationState (.powerOn 77)] ∧ t.records = []) := by
  decide +kernel
/-- R171: a frame with code 0 is foreign at every station. -/
theorem test_foreign : (leaves (.foreignFrame 0 0x02 [0, 0, 0, 5, 1]) station).foreignFrames = 1 := by decide +kernel
/-- R39, R121: an ahead mark sets E and purges entries at or before it. -/
theorem test_mark :
    (let t := leaves (.epochMark 4095 [0x1A, 0x2F]) station
     t.epoch = 0x1A2F ∧ t.epochTimer = some 6000 ∧ t.blocks = [{ key := 77, expiry := 0x1A30 }]) := by decide +kernel
/-- R166: the counter QUERY clears the counts once its reply is queued. -/
theorem test_counter_clear :
    (let t := leaves (.queryCounterClear 77 [9, 0, 0, 0, 1]) { station with badFrames := 3 }
     t.badFrames = 0 ∧ t.uplink.length = 1) := by decide +kernel

/-! ## A state for every statement with hypotheses

`witness_X` shows states and operands that meet the hypotheses of `Obligations.X`, clause by clause, at the edges of the
ranges. -/

theorem witness_StepRunsTheFrontCommand :
    { station with pending := [.tick, .put] }.pending = Instr.tick :: [Instr.put] ∧ State.reset.pending = [] := ⟨rfl, rfl⟩

theorem witness_PowerOnAndFullReset : Listening station 77 ∧ Listening station 4095 := ⟨station_listens, rfl, rfl, by decide +kernel⟩

theorem witness_RuntimeResetOfTheStation : Listening station 77 ∧ (station.str .a).line ≠ .recovering ∧ station.members .a ≠ [] :=
  ⟨station_listens, by decide, by decide +kernel⟩

theorem witness_RuntimeResetOfTheDocks : Listening station 77 ∧ RecordsMatchDocks station ∧ station.polled 6 = false ∧
    station.polled 5 = true ∧ (opening ∈ station.records ∧ station.polled opening.dock = true ∧ opening.state ≠ .referred) ∧
    (referred ∈ station.records ∧ station.polled referred.dock = true) ∧ station.records.all (fun r => r.dock != 5) = true :=
  ⟨station_listens, station_docks, by decide +kernel⟩

theorem witness_RuntimeResetOfTheRiders : Listening station 77 ∧ RiderTableSound station ∧ ReleasesSound station :=
  ⟨station_listens, station_riders, station_releases⟩

/-- The station islanded, with as many frames waiting as given. -/
def alone (waiting : Nat) : State :=
  { station with condition := .islanded, presence := none,
                 uplink := .replicate waiting (.batchReply .rider 0 0 .none 0) }

theorem witness_AcceptanceOfAFrame : station.condition = .online ∧ (alone 63).condition = .islanded ∧
    (alone 63).uplink.length < 64 ∧ (alone 64).condition = .islanded ∧ 64 ≤ (alone 64).uplink.length := by decide +kernel

theorem witness_UnfitFrameIsOnlyCounted : frameOf (.verdict 77 [1]) = some (.verdict, 77, [1]) ∧ Listening station 77 ∧
    fits .verdict [1] = false ∧ fits .verdict (.replicate 11 2) = false ∧ fits .verdict (.replicate 11 1) = true ∧
    frameOf (.stationResetFull 77 [3]) = some (.stationReset, 77, [3]) ∧ fits .stationReset [3] = false ∧
    fits .stationReset [0] = false ∧ fits .headPass [] = false :=
  ⟨rfl, station_listens, by decide +kernel⟩

theorem witness_CompleteFrameIsJudged : station.resetnLow = false ∧ station.deframer = .initial ∧
    crc16 (frameCore 77 1 []) ≠ 0 ∧ station.codeMatches 78 = false ∧ station.codeMatches 0 = false ∧
    station.codeMatches 0xF04D = true ∧ downKindOf 0 = none ∧ downKindOf 15 = none ∧ downKindOf 14 = some .stationReset := by
  decide +kernel

theorem witness_DiscardedAndAbandonedFrames : station.resetnLow = false ∧ station.deframer = .initial ∧
    1024 < (1025 : Half).toNat ∧ (1024 : Half).toNat ≤ 1024 ∧ (0 < 1 ∧ 7 < ([] : List Byte).length + 8) ∧
    ([0xFF] : List Byte).all (fun b => b != 0xA5) = true := by decide +kernel

theorem witness_VerdictsGrantDenyOrComeLate : Listening station 77 ∧ ReleasesSound station ∧
    (referred ∈ station.records ∧ referred.rider = some 123456 ∧ referred.state = .referred) ∧
    station.records.all (fun r => !(r.number == 403 && r.dock == 3 && r.rider == some 123456 && r.state == .referred)) = true :=
  ⟨station_listens, station_releases, by decide +kernel⟩

theorem witness_CreditAndCloseRide : Listening station 77 ∧ station.lookup 0 = none ∧ station.lookup 123456 = some someRider ∧
    0 < someRider.bikesOut ∧
    (station.modRider 123456 RiderEntry.bikeIn).lookup 123456 = some { someRider with bikesOut := 0 } :=
  ⟨station_listens, by decide +kernel⟩

/-- The station with that load in progress. -/
def loading (l : Loader) : State := { station with loader := l }

/-- A load of all of a table. -/
def wholeLoad (t : TableId) (last : Nat) (staging : List (Nat × List Word)) : Loader :=
  { Loader.initial.openWindow t 0 last false with staging := staging }

theorem witness_LoadOpensAndAborts : (Listening station 77 ∧ LoadsSound station ∧ station.loader.state = .idle) ∧
    (tableOf 1 = some .dock ∧ 47 < tableRows .dock ∧ ¬48 < tableRows .dock ∧ tableOf 5 = none) ∧
    Listening (loading (wholeLoad .cls 3 [])) 77 ∧ LoadsSound (loading (wholeLoad .cls 3 [])) ∧
    (loading (wholeLoad .cls 3 [])).loader.state ≠ .idle :=
  ⟨⟨station_listens, ⟨⟨fun _ => ⟨rfl, rfl, rfl, rfl⟩, fun h => absurd rfl h, by decide⟩, trivial⟩, rfl⟩, by decide,
   ⟨rfl, rfl, by decide +kernel⟩,
   ⟨⟨fun h => (by cases h), fun _ => ⟨.cls, 0, 3, rfl, rfl, by decide, by decide, by decide, by decide, by decide, .nil, fun p h => (by cases h)⟩,
     by decide⟩, trivial⟩, by decide⟩

theorem witness_LoadRowsStageWholeRows : Listening station 77 ∧
    (station.loader.state ≠ .opened ∧ (loading (wholeLoad .dock 47 [])).loader.state = .opened ∧
    Listening (loading (wholeLoad .dock 47 [])) 77 ∧ rowItems 2 [1, 0] = none ∧ rowItems 2 [2, 255] = some [.skip 255] ∧
    [RowItem.run [7], .skip 255].flatMap (fun x => match x with
      | .run ws => [1, natByte ws.length] ++ ws.flatMap wordBytes
      | .skip n => [2, natByte n]) = [1, 1, 0, 0, 0, 7, 2, 255] ∧
    ((wholeLoad .dock 47 []).window = some (0, 47) ∧ (wholeLoad .dock 47 []).buffer.length + 1 < wordsPerRow .dock) ∧
    wordsPerRow .cls ≤ (wholeLoad .cls 3 []).buffer.length + 1 ∧
    { wholeLoad .cls 3 [] with rowCounter := 3 }.window = some (0, 3)) ∧
    (wholeLoad .cls 3 []).window = some (0, 3) ∧ 3 ≤ 3 ∧ (0 : Nat) < 1 ∧
    ([(0, [1]), (2, [5])] : List (Nat × List Word)).map Prod.fst = [0, 2] ∧ ([0, 2] : List Nat).Pairwise (· < ·) :=
  ⟨station_listens, ⟨by decide, by decide, ⟨rfl, rfl, by decide +kernel⟩, by decide +kernel⟩, by decide⟩

/-- 10.7: an item of another type, a run of count 0 and a byte left over do not fill the body. -/
theorem test_bad_rows : (loading (wholeLoad .cls 3 [])).loader.state = .opened ∧
    [[3, 1, 0, 0, 0, 7], [1, 0], [1, 2, 0, 0, 0, 7], [2, 5, 1]].all (fun body => decide
      ((leaves (.loadRows 77 body) (loading (wholeLoad .cls 3 []))).uplink =
        [.loadReply (some (.cls, 0, 3)) .badRows 0])) = true := by decide +kernel

theorem witness_LoadSealCommitsOrFails :
    Listening (loading (wholeLoad .param 5 [(4, [0x05040000])])) 77 ∧ station.loader.state ≠ .opened ∧
    (1 : Word) ≠ (wholeLoad .cls 3 []).sealSum ∧ (0 : Word) = (wholeLoad .cls 3 []).sealSum ∧
    (0 : Half).toNat = (wholeLoad .cls 3 []).completed ∧
    (loading (wholeLoad .param 5 [(4, [0x05040000])])).heard.checkLoad (wholeLoad .param 5 [(4, [0x05040000])]) = some .range ∧
    (loading (wholeLoad .cls 3 [])).heard.checkLoad (wholeLoad .cls 3 []) = none ∧ (wholeLoad .cls 3 []).defer = false ∧
    (loading { wholeLoad .cls 3 [] with defer := true }).heard.checkLoad { wholeLoad .cls 3 [] with defer := true } = none :=
  ⟨⟨rfl, rfl, by decide +kernel⟩, by decide +kernel⟩

theorem witness_CommitChecksPassExactlyWhen : (wholeLoad .key 3 []).table = some .key ∧ (wholeLoad .dock 47 []).table = some .dock ∧
    station.checkLoad (wholeLoad .dock 47 []) = none ∧
    station.checkLoad (wholeLoad .dock 47 [(1, [0x01010000, 0])]) = some .aliasClash ∧
    station.checkLoad (wholeLoad .dock 47 [(2, [0, 0])]) = some .dockInUse ∧
    station.checkLoad (wholeLoad .dock 47 [(1, [0x01010000, 0]), (2, [0, 0])]) = some .aliasClash ∧
    station.checkLoad (wholeLoad .param 5 [(4, [0x00180000])]) = some .range ∧
    station.checkLoad (wholeLoad .param 5 [(4, [0x00300000]), (5, [0xFF000000])]) = some .range ∧
    station.checkLoad (wholeLoad .param 5 [(4, [0x002F0000]), (5, [0xFF000000])]) = some .aliasClash ∧
    station.checkLoad (wholeLoad .param 5 [(4, [0xFF000000])]) = some .dockInUse := by decide +kernel

theorem witness_DockCommitMovesTheDocks : (wholeLoad .dock 47 [(0, [0, 0]), (1, [0x01140000, 0]), (6, [0x01070000, 0])]).table = some .dock ∧
    (let t := station.commitRows (wholeLoad .dock 47 [(0, [0, 0]), (1, [0x01140000, 0]), (6, [0x01070000, 0])])
     (station.polled 0 = true ∧ t.polled 0 = false) ∧ (t.polled 1 = true ∧ (station.desc 1).aliasNo ≠ (t.desc 1).aliasNo) ∧
     (t.polled 6 = true ∧ station.polled 6 = false) ∧ station.polled 5 = t.polled 5 ∧ (station.desc 5).aliasNo = (t.desc 5).aliasNo) := by
  decide +kernel

theorem witness_DockCommitMovesTheDocks_ranges : (wholeLoad .param 5 [(4, [0x00000000]), (5, [0x012F0000])]).table = some .param ∧
    (let t := station.commitRows (wholeLoad .param 5 [(4, [0x00000000]), (5, [0x012F0000])])
     station.polled 1 = true ∧ t.polled 1 = true ∧ stringOf station.params 1 = some .a ∧ stringOf t.params 1 = some .b ∧
     (t.ctx 1).state = .unseen ∧ t.ctx 0 = station.ctx 0) ∧
    (let t := (alone 0).commitRows (wholeLoad .dock 47 [(0, [0x01010001, 0])])
     (alone 0).polled 0 = t.polled 0 ∧ ((alone 0).desc 0).mode ≠ (t.desc 0).mode ∧ (t.ctx 0).unsent = true) := by decide +kernel

theorem witness_RowsReadAndCommitted : (wholeLoad .cls 3 []).table = some .cls ∧ (wholeLoad .key 3 []).table = some .key ∧
    (let l := wholeLoad .param 5 [(0, [4]), (3, [3601]), (5, [0xFF2F0000])]
     l.table = some .param ∧ (l.staging.map Prod.fst).Pairwise (· < ·) ∧ (station.commitRows l).params.presenceTimeout = 5 ∧
     (station.commitRows l).params.epochLength = 3600 ∧ (station.commitRows l).params.referralTimeout = 4) ∧
    (readDockRow [0x03200402, 0xF3F50000] : DockDesc) =
      { kind := .empty, aliasNo := 0, minLevel := 3, localMask := 3, islandedMask := 5, mode := .mask } := by decide +kernel

/-- The station with a pass in the slot of string A. -/
def passing : State := station.setStr .a { station.stringA with headPass := some { dock := 0, payload := [7] } }

/-- The station with a pass waiting for dock 0 and an exchange with dock 1 in flight on string A; string B IDLE. -/
def busy : State :=
  { passing with
    stringA := { passing.stringA with
      line := .polling, exchange := some { dock := 1, aliasSent := 2, kind := .ordinary, serial := none, discarded := false } }
    stringB := { station.stringB with line := .idle } }

theorem witness_CommitAtTheStringMasters :
    (let l := wholeLoad .dock 47 [(0, [0, 0]), (1, [0x01140000, 0])]
     let t := busy.commitRows l
     l.table = some .dock ∧ (busy.str .a).headPass = some { dock := 0, payload := [7] } ∧ t.polled 0 = false ∧
     (busy.desc 1).aliasNo ≠ (t.desc 1).aliasNo ∧ (busy.str .b).line = .idle ∧ t.members .b ≠ [] ∧
     (t.str .b).line = .clearing ∧ (t.str .a).exchange.map Exchange.discarded = some true ∧ (t.str .a).headPass = none ∧
     t.uplink = [.headReply 0 .noDock []]) ∧
    (let t := busy.commitRows (wholeLoad .param 5 [])
     (t.str .a).exchange.map Exchange.discarded = some false ∧ (t.str .a).headPass = (busy.str .a).headPass ∧ t.uplink = []) := by
  decide +kernel

/-- A batch of one record, and the station with it in the slot. -/
def batchOf (kind : BatchKind) (code : Byte) (key : Key) : Batch :=
  { kind := kind, number := 5, records := [{ kind := code, key := key, b5 := 9, b6 := 70, b7 := 3 }], next := 0, applied := 0 }
def batching (b : Batch) (s : State) : State := { s with batch := some b }

theorem witness_BatchEntersTheSlot :
    (Listening station 77 ∧ station.batch = none ∧ ([] : List Byte).length < 3 ∧
    32 < (byteAt [0, 1, 33] 2).toNat ∧ byteAt [0, 1, 0] 2 = 0 ∧
    (3 < ([0, 1, 1] ++ List.replicate 8 (0 : Byte)).length ∧ ([0, 1, 1] ++ List.replicate 8 (0 : Byte)).length = 3 + 8 * 1) ∧
    { station with batch := some { kind := .rider, number := 1, records := [], next := 0, applied := 0 } }.batch ≠ none) ∧
    NextRecord (batching (batchOf .rider 1 0) station) (batchOf .rider 1 0) { kind := 1, key := 0, b5 := 9, b6 := 70, b7 := 3 } ∧
    NextRecord (batching (batchOf .rider 3 5) station) (batchOf .rider 3 5) { kind := 3, key := 5, b5 := 9, b6 := 70, b7 := 3 } ∧
    TakesRecord .put 1 ∧ TakesRecord .add 3 ∧ ¬Belongs .rider 3 ∧ TakesRecord .drop 5 ∧ ¬Belongs .rider 5 ∧
    (batchOf .rider 1 0).records.length ≤ (batchOf .rider 1 0).next + 1 :=
  ⟨⟨station_listens, by decide⟩,
  ⟨⟨rfl, rfl, rfl⟩, ⟨rfl, rfl, rfl⟩, by unfold TakesRecord; decide, by unfold TakesRecord; decide, by unfold Belongs; decide,
   by unfold TakesRecord; decide, by unfold Belongs; decide, by decide⟩⟩

/-- The Rider Table with the same entry in every way of every bucket. -/
def crowd (e : RiderEntry) : State := { station with riders := .replicate 1024 (.replicate 4 (some e)) }

theorem witness_PutAndDropAtTheRiderTable :
    (NextRecord (batching (batchOf .rider 1 5) station) (batchOf .rider 1 5) { kind := 1, key := 5, b5 := 9, b6 := 70, b7 := 3 } ∧
    (3 : Fin 4).val = min 3 (9 : Byte).toNat ∧ (batching (batchOf .rider 1 123456) station).lookup 123456 = some someRider ∧
    (batching (batchOf .rider 1 5) station).lookup 5 = none ∧
    ((batching (batchOf .rider 1 5) station).insertRider { someRider with key := 5 }).isSome = true ∧
    (batching (batchOf .rider 1 5) (crowd someRider)).lookup 5 = none ∧
    ((batching (batchOf .rider 1 5) (crowd someRider)).insertRider { someRider with key := 5 }).isNone = true) ∧
    NextRecord (batching (batchOf .rider 2 123456) station) (batchOf .rider 2 123456) { kind := 2, key := 123456, b5 := 9, b6 := 70, b7 := 3 } ∧
    RiderTableSound (batching (batchOf .rider 2 123456) station) ∧ referred.rider = some 123456 ∧
    station.records.all (fun r => r.rider != some 5) = true :=
  ⟨⟨⟨rfl, rfl, rfl⟩, by decide +kernel⟩,
  ⟨⟨rfl, rfl, rfl⟩, station_riders, by decide⟩⟩

theorem witness_InsertTakesEmptyOrEvictedWay :
    (station.bucket 1).get 0 = none ∧
    (ways.all fun w => (((crowd someRider).bucket 1).get w).any fun e => !(crowd someRider).evictable e) = true ∧
    (let old := { someRider with key := 7, bikesOut := 0 }
     (ways.all fun w => (((crowd old).bucket 1).get w).any fun e => (crowd old).evictable e && !e.provisional) = true) := by
  decide +kernel

/-- The station with that many keys listed. -/
def listing (n : Nat) : State :=
  { station with blocks := (List.range n).map fun i => { key := BitVec.ofNat 32 (i + 1), expiry := 0 } }

theorem witness_AddAndRemoveKeepTheBlockList :
    NextRecord (batching (batchOf .block 3 1000) (listing 2)) (batchOf .block 3 1000) { kind := 3, key := 1000, b5 := 9, b6 := 70, b7 := 3 } ∧
    (listing 512).blocks.length = 512 ∧ (listing 512).blocks.all (fun e => e.key != 1000) = true ∧
    (listing 511).blocks.length < 512 ∧ (listing 512).blocks.any (fun e => e.key == 512) = true ∧ BlockListOrdered (listing 2) :=
  ⟨⟨rfl, rfl, rfl⟩, by decide +kernel, by decide +kernel, by decide +kernel, by decide +kernel,
   ⟨by decide +kernel, by decide +kernel, fun e h => by
     simp only [listing, List.range, List.range.loop, List.map, List.mem_cons, List.not_mem_nil, or_false] at h
     rcases h with rfl | rfl <;> decide⟩⟩

theorem witness_TickLowersTheTimers : station.resetnLow = false := rfl

theorem witness_EpochMarksAndLocalAdvance : Listening station 77 ∧ { station with epochValid := false }.epochValid = false ∧
    station.epochValid = true ∧ ((0x1A2F : Half) - station.epoch).toNat = 1 ∧ ((0x9A2D : Half) - station.epoch).toNat = 32767 ∧
    ((0x9A2E : Half) - station.epoch).toNat = 32768 ∧ station.epochTimer = some 0 := ⟨station_listens, by decide +kernel⟩

theorem witness_ChangeOfEpoch : station.loader.state ≠ .waitingEpoch ∧
    (let l := { wholeLoad .cls 3 [] with state := .waitingEpoch }
     (loading l).loader.state = .waitingEpoch ∧ (loading l).checkLoad l = none) ∧
    (let l := { wholeLoad .dock 47 [(2, [0, 0])] with state := .waitingEpoch }
     (loading l).checkLoad l = some .dockInUse) := by decide +kernel

theorem witness_DockOrdersThatAreNotTaken : Listening station 77 ∧
    frameOf (.dockOrderRelease 77 [48, 1]) = some (.dockOrder, 77, [48, 1]) ∧ 47 < (48 : Byte).toNat ∧
    (47 : DockNo).val = (47 : Byte).toNat ∧ (0 : Byte) ∉ ([1, 2, 3, 4] : List Byte) ∧ (5 : Byte) ∉ ([1, 2, 3, 4] : List Byte) ∧
    (4 : Byte) ∈ ([1, 2, 3, 4] : List Byte) ∧ (station.ctx 47).state = .unpolled := ⟨station_listens, by decide +kernel⟩

/-- A dock of the station with a relatch owed. -/
def owing : State :=
  station.modCtx 0 fun c => { c with owed := some { release := 401, rider := some 123456, charged := true }, order := some .relatch }

theorem witness_ReleaseOrderAndItsNumber : Listening station 77 ∧ Listening owing 77 ∧ (station.ctx 0).state = .holding ∧
    (station.ctx 0).owed = none ∧ station.records.length < 16 ∧ (station.ctx 1).state = .vacant ∧ (owing.ctx 0).owed ≠ none ∧
    16 ≤ { station with records := .replicate 16 opened }.records.length ∧ station.newNumber = 405 :=
  ⟨station_listens, ⟨rfl, rfl, by decide +kernel⟩, by decide +kernel⟩

theorem witness_OrdersThatWithdraw : Listening station 77 ∧ ReleasesSound station ∧ referred ∈ station.records ∧
    opening ∈ station.records ∧ opened ∈ station.records ∧
    frameOf (.outOfService 77 [natByte referred.dock.val, 3]) = some (.dockOrder, 77, [natByte referred.dock.val, 3]) :=
  ⟨station_listens, station_releases, station_records.1, station_records.2.1, station_records.2.2, rfl⟩

theorem witness_OrdersAtADockWithoutARecord : Listening station 77 ∧ (station.ctx 1).state = .vacant ∧
    ((station.ctx 5).state = .closed ∧ (station.ctx 5).missCount ≠ 8 ∧ (station.ctx 5).bikePresent = .present ∧
     (station.ctx 5).latch = .opened ∧ (station.ctx 5).order = none ∧ (station.ctx 5).owed = none) ∧
    ((station.modCtx 5 fun c => { c with missCount := 8 }).ctx 5).missCount = 8 ∧
    ((station.modCtx 5 fun c => { c with bikePresent := .unknown }).ctx 5).bikePresent = .unknown ∧
    ((station.modCtx 5 fun c => { c with bikePresent := .absent }).ctx 5).bikePresent = .absent ∧
    ((station.modCtx 5 fun c => { c with latch := .closed }).ctx 5).latch ≠ .opened := ⟨station_listens, by decide +kernel⟩

theorem witness_RefundAndDropTest : opened.rider = none ∧ opening.rider = some 123456 ∧
    (let s := { station.modRider 123456 RiderEntry.markDrop with records := [] }
     (s.lookup 123456).map RiderEntry.dropPending = some true ∧ s.records = []) ∧ RiderTableSound station ∧
    referred.rider = some 123456 := ⟨rfl, rfl, by decide +kernel, station_riders, rfl⟩

theorem witness_SettlementByTheIslandedMask : (referred.rider = some 123456 ∧ referred.cond = some 0 ∧ referred.cls = some 1 ∧
    referred.seq = some 7) ∧ (station.desc 2).islandedMask.getLsbD 0 = true ∧ (station.desc 2).islandedMask.getLsbD 1 = false ∧
    (station.desc 2).islandedMask.getLsbD 2 = true ∧ station.lookup 123456 ≠ none ∧ station.lookup 5 = none ∧
    ReleasesSound station ∧ referred ∈ station.records ∧ referred.timer = .referral 0 :=
  ⟨by decide, by decide +kernel, by decide +kernel, by decide +kernel, by decide +kernel, by decide +kernel, station_releases,
   station_records.1, rfl⟩

theorem witness_LiftTimerExpiry : ReleasesSound station ∧ opened ∈ station.records ∧ opened.state = .opened ∧ opened.timer = .lift 0 :=
  ⟨station_releases, station_records.2.2, rfl, rfl⟩

theorem witness_PresenceTimerExpiry : station.presence = some 0 ∧ station.condition = .online ∧ ReleasesSound station :=
  ⟨rfl, rfl, station_releases⟩

theorem witness_HeadPassIsJudgedInOrder : Listening station 77 ∧ Listening passing 77 ∧ 47 < (48 : Byte).toNat ∧
    (List.replicate 65 (0 : Byte)).length = 65 ∧ station.polled 6 = false ∧ station.polled 0 = true ∧
    stringOf station.params 0 = some .a ∧ (station.ctx 0).missCount < 8 ∧ (station.str .a).headPass = none ∧
    (passing.str .a).headPass ≠ none ∧ 8 ≤ ((station.modCtx 0 fun c => { c with missCount := 8 }).ctx 0).missCount :=
  ⟨station_listens, ⟨rfl, rfl, by decide +kernel⟩, by decide +kernel⟩

theorem witness_IndexedQueries : Listening station 77 ∧
    frameOf (.queryBlockList 77 ([6] ++ halfBytes 2 ++ [255, 0])) = some (.query, 77, [6] ++ halfBytes 2 ++ [255, 0]) ∧
    min (255 : Byte).toNat ((station.blocks.map blockItem).length - (2 : Half).toNat) = 0 ∧
    min (32 : Byte).toNat (((List.finRange 48).map fun d => dockRowItem (station.desc d)).length - (0 : Half).toNat) = 32 :=
  ⟨station_listens, rfl, by decide +kernel, by decide +kernel⟩

theorem witness_RiderAndCounterQueries : Listening station 77 ∧
    frameOf (.queryRider 77 ([5] ++ wordBytes 123456)) = some (.query, 77, [5] ++ wordBytes 123456) ∧
    frameOf (.queryCounterClear 77 [9, 0, 0, 0, 1]) = some (.query, 77, [9, 0, 0, 0, 1]) ∧ (1 : Byte).getLsbD 0 = true ∧
    station.heard.uplink.length < 64 ∧ 64 ≤ (alone 64).heard.uplink.length ∧ 9 < (10 : Byte).toNat :=
  ⟨station_listens, rfl, rfl, by decide +kernel⟩

theorem witness_KeyWordsAreNeverSent : frameOf (.queryKey 77 [4, 0, 0, 4, 0]) = some (.query, 77, [4, 0, 0, 4, 0]) ∧
    station.deframer = .initial ∧
    (let keys : Vector KeyRow 4 := (Vector.replicate 4 .blank).set 1 { foldKey with k0 := 0 }
     ∀ k, (keys.get k).valid = (station.keyRow k).valid) := by decide +kernel

theorem witness_PollChoice : State.reset.members .a = [] ∧ station.members .a = [0, 1, 2, 3, 4, 5] ∧
    station.chooseNext .a = some (0, 0) ∧
    (station.setStr .a { station.stringA with position := some 5 }).chooseNext .a = some (1, 0) := by decide +kernel

theorem witness_PollSend : (station.str .a).line = .clearing ∧ station.chooseNext .a = some (0, 0) ∧
    (passing.str .a).headPass = some { dock := 0, payload := [7] } ∧ passing.chooseNext .a = some (0, 0) ∧
    ({ State.reset with stringA := station.stringA }.members .a = []) := by decide +kernel

/-- The station with the reply window of that exchange open on string A. -/
def waiting (e : Exchange) : State :=
  station.setStr .a { station.stringA with line := .polling, exchange := some e, position := some e.dock }

theorem witness_OrdinaryExchangeEnd :
    (let e : Exchange := { dock := 3, aliasSent := 4, kind := .ordinary, serial := some 10, discarded := false }
     WindowOpen (waiting e) .a e .ordinary ∧ ((waiting e).ctx 3).order ≠ none ∧ ((waiting e).ctx 3).tries = 3 ∧
     e.serial = some ((waiting e).ctx 3).serial ∧ (goodReply 4 (withCrc [4, 3, 9, 0])).isSome = true ∧ goodReply 4 [4] = none ∧
     WindowOpen (waiting { e with discarded := true }) .a { e with discarded := true } .ordinary) :=
  ⟨⟨rfl, rfl, rfl, rfl, rfl⟩, by decide +kernel, by decide +kernel, by decide +kernel, by decide +kernel, by decide +kernel,
   ⟨rfl, rfl, rfl, rfl, rfl⟩⟩

theorem witness_PassExchangeEnd :
    (let e : Exchange := { dock := 3, aliasSent := 4, kind := .pass, serial := none, discarded := false }
     WindowOpen (waiting e) .a e .pass ∧ goodPassReply 4 (withCrc [4, 0x80, 1, 7]) = some [7] ∧ goodPassReply 4 [4] = none ∧
     WindowOpen (waiting { e with discarded := true }) .a { e with discarded := true } .pass) :=
  ⟨⟨rfl, rfl, rfl, rfl, rfl⟩, by decide +kernel, by decide +kernel, ⟨rfl, rfl, rfl, rfl, rfl⟩⟩

/-- A string in recovery. -/
def recovering (pulses : Nat) (timer : Option Nat) : State :=
  station.setStr .a { station.stringA with line := .recovering, pulses := pulses, recoveryTimer := timer }

theorem witness_LineRecovery : (station.str .a).line = .clearing ∧ ((recovering 16 none).str .a).line = .recovering ∧
    0 < ((recovering 16 none).str .a).pulses ∧ ((recovering 0 (some 20)).str .a).recoveryTimer ≠ none ∧
    (waiting { dock := 3, aliasSent := 4, kind := .pass, serial := none, discarded := false } |>.str .a).line = .polling := by decide

/-- The hypotheses of ReplyBytesReadBack fix the bytes of each form; these are the shortest and the longest ORDINARY reply and the
longest PASS payload. -/
theorem witness_ReplyBytesReadBack : goodReply 4 (withCrc [4, 3, 9, 0]) =
      some { bike := true, latchClosed := true, bikeId := none, serial := 9, event := .nothing } ∧
    goodReply 4 (withCrc ([4, 7, 9, 1, 0, 0, 0, 5] ++ List.replicate 20 0)) =
      some { bike := true, latchClosed := true, bikeId := some 5, serial := 9, event := .tap (tokenOf (List.replicate 20 0)) } ∧
    (List.replicate 24 (0 : Byte)).length ≤ 24 := by decide +kernel

/-- The station with a dock that has missed that many polls. -/
def missing (d : DockNo) (n : Nat) : State := station.modCtx d fun c => { c with missCount := n }

theorem witness_StatusOfAGoodReply : ((station.modCtx 0 fun c => { c with state := .unseen }).ctx 0).state = .unseen ∧
    ((station.modCtx 0 fun c => { c with state := .absent }).ctx 0).owed = none ∧
    (((station.ctx 4).state = .opened ∧ (station.ctx 5).state = .closed) ∧ ((missing 5 8).ctx 5).missCount = 8 ∧
     ((station.ctx 1).bikePresent = .absent ∧ (station.ctx 1).state = .vacant) ∧
     ((station.ctx 0).bikePresent = .present ∧ (station.ctx 0).state = .holding)) ∧
    ReleasesSound station ∧ opened ∈ station.records ∧ opened.dock = 4 ∧ (station.ctx 3).state = .opening :=
  ⟨by decide +kernel, by decide +kernel, by decide +kernel, station_releases, station_records.2.2, rfl, by decide +kernel⟩

/-- R46, R48: a CLOSED dock at 8 misses with its latch open tells PRESENT and takes a RELATCH. -/
theorem test_closed_returns :
    (let t := (missing 5 8).replyStatus 5 { bike := true, latchClosed := false, bikeId := none, serial := 0, event := .nothing }
     t.uplink = [.dockEvent 5 (.present false true none)] ∧ (t.ctx 5).state = .closed ∧ (t.ctx 5).order = some .relatch ∧
     (t.ctx 5).missCount = 0) := by decide +kernel

theorem witness_EventOfAGoodReply :
    (let r : Reply := { bike := true, latchClosed := true, bikeId := none, serial := 0, event := .fault 255 }
     r.event = .fault 255 ∧ { r with event := .lift }.event = .lift ∧ { r with event := .docked }.event = .docked) ∧
    (station.ctx 1).state = .vacant ∧ ((station.ctx 0).state ≠ .vacant ∧ (station.ctx 0).bikePresent ≠ .absent) ∧
    (station.ctx 4).state = .opened ∧ (station.ctx 5).state = .closed ∧ ReleasesSound station ∧ referred ∈ station.records ∧
    opening ∈ station.records :=
  ⟨⟨rfl, rfl, rfl⟩, by decide +kernel, by decide +kernel, by decide +kernel, by decide +kernel, station_releases,
   station_records.1, station_records.2.1⟩

/-- R56: a FAULT of the head at an OPENING dock queues HEAD_FAULT, removes the record as FAULT and gives back what it counted. -/
theorem test_head_fault :
    (let t := station.faultEvent 3 7
     t.uplink = [.dockEvent 3 (.headFault 7), reportFor opening .fault (.headFault 7)] ∧ (t.ctx 3).state = .faulted ∧
     (t.lookup 123456).map (fun e => (e.bikesOut, e.allowance)) = some (0, 3)) := by decide +kernel

theorem witness_LiftAtTheDock : (station.ctx 1).state = .vacant ∧ ((station.ctx 0).state = .holding ∧ (station.ctx 0).owed = none) ∧
    ((station.ctx 5).state = .closed ∧ (station.ctx 5).owed = none) ∧ ((owing.ctx 0).state = .holding ∧ (owing.ctx 0).owed ≠ none) ∧
    ReleasesSound station ∧ referred ∈ station.records ∧ opening ∈ station.records ∧ opened ∈ station.records :=
  ⟨by decide +kernel, by decide +kernel, by decide +kernel, by decide +kernel, station_releases, station_records.1,
   station_records.2.1, station_records.2.2⟩

theorem witness_AcknowledgedAndFailedOrders : (station.ctx 0).order = none ∧ (owing.ctx 0).order = some .relatch ∧
    (owing.ctx 0).serial = 10 ∧ ((station.ctx 3).order = some .unlatch ∧ opening.dock = 3 ∧ opening.state = .opening) ∧
    ((station.modCtx 2 fun c => { c with order := some .relatch }).ctx 2).order = some .relatch ∧ ReleasesSound station ∧
    opening ∈ station.records :=
  ⟨by decide +kernel, by decide +kernel, by decide +kernel, by decide +kernel, by decide +kernel, station_releases,
   station_records.2.1⟩

theorem witness_MissesAndTheEighth : ((missing 0 6).ctx 0).missCount < 7 ∧ ((missing 0 8).ctx 0).missCount = 8 ∧
    (((missing 0 7).ctx 0).missCount = 7 ∧ ((missing 0 7).ctx 0).state = .holding) ∧
    (((missing 5 7).ctx 5).missCount = 7 ∧ ((missing 5 7).ctx 5).state = .closed) ∧
    (((missing 3 7).ctx 3).missCount = 7 ∧ opening ∈ (missing 3 7).records ∧ ReleasesSound (missing 3 7)) :=
  ⟨by decide +kernel, by decide +kernel, by decide +kernel, by decide +kernel, by decide +kernel, by decide,
   station_releases' rfl rfl (by unfold RecordsMatchDocks Held; decide +kernel)⟩

theorem witness_TokenChecksInOrder : (foldToken.rider ≠ 0 ∧ foldToken.slot.toNat ≤ 3 ∧ foldToken.claimed.toNat ≤ 3 ∧
    1 ≤ foldToken.span.toNat ∧ foldToken.span.toNat ≤ 15 ∧ foldToken.spare = 0) ∧ (1 : Fin 4).val = foldToken.slot.toNat ∧
    station.keyRow 1 = foldKey ∧ foldTag foldToken foldKey = foldToken.tag ∧ foldToken.stationScope.toNat = station.stationCode.toNat ∧
    foldToken.dockScope.toNat = 65535 ∧ (station.epoch - foldToken.issue).toNat = 3 ∧
    ((0x1A30 : Half) - foldToken.issue).toNat = 5 ∧ ((0x1A31 : Half) - foldToken.issue).toNat = 6 ∧
    ((0x1A2A : Half) - foldToken.issue).toNat = 65535 ∧ ((0x1A29 : Half) - foldToken.issue).toNat = 65534 := by decide +kernel

theorem witness_TapAtTheDockGate : ((alone 0).condition = .islanded ∧ ((alone 0).desc 24).mode = .close) ∧
    (station.ctx 1).state = .vacant ∧ (station.ctx 2).state = .checking ∧ (station.ctx 5).state = .closed ∧
    ((owing.ctx 0).state = .holding ∧ (owing.ctx 0).owed ≠ none) ∧
    16 ≤ { station with records := .replicate 16 opened }.records.length ∧ station.records.length < 16 ∧
    (station.tokenCheck 0 { foldToken with tag := 0 } matches .error .badTag) = true ∧
    (station.tokenCheck 0 foldToken matches .ok false) = true := by decide +kernel

theorem witness_SequenceJudgement : WindowSound
      { key := 1, cls := 0, allowance := 0, bikesOut := 0, review := false, pinned := false, provisional := false,
        dropPending := false, top := some 6, used := [6, 4], lastUse := 0 } ∧
    ((7 : Half) - 6).toNat = 1 ∧ ((32773 : Half) - 6).toNat = 32767 ∧ ((32774 : Half) - 6).toNat = 32768 ∧
    65536 - ((65527 : Half) - 6).toNat = 15 ∧ 65536 - ((65526 : Half) - 6).toNat = 16 :=
  ⟨by simp [WindowSound], by decide⟩

theorem witness_TapAtItsRider : station.blocks.any (fun b => b.key == 9) = true ∧ station.lookup 5 = none ∧
    station.lookup 123456 = some someRider ∧ someRider.dropPending = false ∧ judgeSeq (some 6) [6, 4] 6 = .replay ∧
    judgeSeq (some 6) [6, 4] 7 = .accepted 7 [7, 6, 4] ∧ (station.classRow 1).limit = 2 ∧
    ((station.modRider 123456 RiderEntry.markDrop).lookup 123456).map RiderEntry.dropPending = some true := by decide +kernel

theorem witness_TapGrantedReferredOrRefused :
    (let x : Tap := { dock := 0, rider := 123456, seq := 7, unchecked := false, cls := 1, known := some someRider }
     x.unchecked = false ∧ station.condition = .online ∧ (station.desc x.dock).localMask.getLsbD 0 = true ∧
     (station.desc x.dock).localMask.getLsbD 1 = false ∧ station.uplink.length < 64 ∧ (alone 63).condition = .islanded ∧
     64 ≤ { alone 64 with condition := .online }.uplink.length ∧ (station.desc x.dock).islandedMask.getLsbD 2 = true ∧
     { x with unchecked := true }.unchecked = true) := by decide +kernel

/-- 10.7: the default PARAM rows 4 and 5 read 00170000h and 182F0000h. -/
theorem test_param_items : paramRowItem .initial 4 = [0x00, 0x17, 0x00, 0x00] ∧ paramRowItem .initial 5 = [0x18, 0x2F, 0x00, 0x00] := by
  decide
theorem witness_UplinkBodies : uplinkBody (.tapRefused 47 .replay 0x01020304 5 (some 3)) = [47, 14, 1, 2, 3, 4, 0, 5, 7] ∧
    uplinkBody (.dockEvent 3 (.headFault 7)) = [3, 5, 0, 0, 0, 0, 0, 7] := by decide
/-- The hypotheses of QueryItems, at the largest alias, limit and count of tries; the longest items. -/
theorem witness_QueryItems : (testDesc 0).aliasNo.toNat ≤ 31 ∧ (31 : Byte).toNat ≤ 31 ∧ (15 : Nat) ≤ 15 ∧
    ((station.ctx 3).tries ≤ 3 ∧ (contextItem (station.ctx 3)).length = 20) ∧ (riderItem 123456 (some someRider)).length = 45 ∧
    station.counterItem.length = 229 ∧ halfAt station.counterItem 13 = 1 ∧ byteAt station.counterItem 31 = 0xFF := by
  decide +kernel

theorem witness_TransmissionAndResetn : (alone 1).transmitter = .fill ∧ (alone 1).uplink = .batchReply .rider 0 0 .none 0 :: [] ∧
    (leaves (.transmitStart true) (alone 1)).transmitter ≠ .fill ∧ { station with resetnLow := true }.resetnLow = true ∧
    station.uplink = [] := by decide +kernel

/-- A state on which a tick is waiting. -/
def ticking : State := { station with pending := [.tick] }

theorem witness_RiderTableStaysSound : RiderTableSound ticking ∧ ∃ t, step ticking = .next t := ⟨station_riders, _, rfl⟩

theorem witness_ReleasesStaySound : ReleasesSound ticking ∧ ∃ t, step ticking = .next t := ⟨station_releases, _, rfl⟩

theorem witness_BlocksStaySound : CountsBounded ticking ∧ ConditionSound ticking ∧ DeframerSound ticking ∧ LoadsSound ticking :=
  ⟨by unfold CountsBounded; refine ⟨by decide, by decide, by decide, by decide, by decide, by decide, by decide, by decide,
      by decide, fun m => by cases m <;> decide, by decide +kernel⟩,
   ⟨by decide, fun h => (by cases h), by decide, fun h => (by cases h)⟩, ⟨fun _ => rfl, fun h => absurd rfl h⟩,
   ⟨⟨fun _ => ⟨rfl, rfl, rfl, rfl⟩, fun h => absurd rfl h, by decide⟩, trivial⟩⟩

theorem witness_BlockListOrdered : BlockListOrdered ticking :=
  ⟨by decide +kernel, by decide, fun e h => by
    simp only [ticking, station, List.mem_cons, List.not_mem_nil, or_false] at h
    rcases h with rfl | rfl <;> decide⟩

theorem witness_StringsSound : StringsSound ticking := fun m => by
  cases m <;> unfold StringSound <;> decide +kernel

end

end Sys2Proof.Machine
end

section
/-! Commands that are frames: each is received as its frame, and what a part in HUNT makes of a frame (R168, R170, R171). -/

namespace Sys2Proof.Machine

/-- A command that is a frame is received as that frame. -/
theorem exec_of_frameOf {i : Instr} {k : DownKind} {code : Half} {body : List Byte} (h : frameOf i = some (k, code, body))
    (s : State) : exec i s = receive k code body s := by
  cases i <;> simp only [frameOf, Option.some.injEq, Prod.mk.injEq, reduceCtorEq] at h <;> obtain ⟨rfl, rfl, rfl⟩ := h <;> rfl

/-- A frame of a downlink kind that meets a deframer in HUNT: nothing while RESETN is low, else it is accepted or counted
foreign. -/
theorem receive_eq {s : State} (hd : s.deframer = .initial) (k : DownKind) (code : Half) {body : List Byte}
    (hb : body.length ≤ 1024) : receive k code body s = .next
      (if s.resetnLow then s else if s.codeMatches code then s.acceptFrame k body else s.countForeign) := by
  simp only [receive, whenRunning]
  rw [frameBytes, rxChars_frameWith s hd _ _ _ _ hb, judgeFrame_frame]
  cases s.codeMatches code <;> simp

end Sys2Proof.Machine
end

section
/-! Tokens: the end-around sum, the fold, the checks of a token in their order (chapter 1). -/

namespace Sys2Proof.Machine

/-! ## The fold (R5 to R7) -/

theorem addEndAround_toNat (a b : Word) : (addEndAround a b).toNat =
    if a.toNat + b.toNat < 2 ^ 32 then a.toNat + b.toNat else a.toNat + b.toNat - 2 ^ 32 + 1 := by
  unfold addEndAround
  split <;> rw [BitVec.toNat_ofNat] <;> omega

@[simp] theorem rotateBytes_zero (w : Word) : rotateBytes w 0 = w := by
  apply BitVec.eq_of_getLsbD_eq
  intro i hi
  simp [rotateBytes, hi]

theorem foldTag_eq (t : Token) (k : KeyRow) : foldTag t k =
    addEndAround (addEndAround (addEndAround (addEndAround k.k4 (t.w0 ^^^ k.k0)) ((t.w1 ^^^ k.k1).rotateLeft 8))
      ((t.w2 ^^^ k.k2).rotateLeft 16)) ((t.w3 ^^^ k.k3).rotateLeft 24) := by
  rw [foldTag, rotateBytes_zero]
  rfl

/-! ## Form, scope, age (R2, R4, R9 to R11) -/

/-- A token passes the form check exactly when all its fields are in their ranges. -/
theorem malformed_eq_false_iff (t : Token) : t.malformed = false ↔
    t.rider ≠ 0 ∧ t.slot.toNat ≤ 3 ∧ t.claimed.toNat ≤ 3 ∧ 1 ≤ t.span.toNat ∧ t.span.toNat ≤ 15 ∧ t.spare = 0 := by
  have hspan : t.span ≠ 0 ↔ 1 ≤ t.span.toNat := by
    rw [Ne, ← BitVec.toNat_inj]; simp; omega
  simp only [Token.malformed, Bool.or_eq_false_iff, beq_eq_false_iff_ne, decide_eq_false_iff_not, Nat.not_lt,
    bne_eq_false_iff_eq, hspan, and_assoc]

theorem keySlot_val {t : Token} (h : t.slot.toNat ≤ 3) : t.keySlot.val = t.slot.toNat := by
  simp only [Token.keySlot, Fin.ofNat]
  omega

/-- The scope check by the two scopes as numbers. -/
theorem scopeRefusal_eq (s : State) (d : DockNo) (t : Token) : s.scopeRefusal d t =
    if t.stationScope = 0 ∨ t.stationScope.toNat = s.stationCode.toNat then
      if t.dockScope.toNat = 65535 ∨ t.dockScope.toNat = d.val then none else some .wrongDock
    else some .wrongStation := by
  have hall : t.dockScope = 65535 ↔ t.dockScope.toNat = 65535 := by rw [← BitVec.toNat_inj]; rfl
  simp only [State.scopeRefusal, hall, ite_not]

/-! ## What each check ends with -/

section
variable {s : State} {d : DockNo} {t : Token}

theorem tokenCheck_malformed (h : t.malformed = true) : s.tokenCheck d t = .error .malformed := by
  simp [State.tokenCheck, h]

variable (hform : t.malformed = false)
include hform

theorem tokenCheck_keyAbsent (hv : (s.keyRow t.keySlot).valid = false) : s.tokenCheck d t = .error .keyAbsent := by
  simp [State.tokenCheck, hform, hv]

variable (hv : (s.keyRow t.keySlot).valid = true)
include hv

theorem tokenCheck_badTag (ht : foldTag t (s.keyRow t.keySlot) ≠ t.tag) : s.tokenCheck d t = .error .badTag := by
  simp [State.tokenCheck, hform, hv, ht]

variable (ht : foldTag t (s.keyRow t.keySlot) = t.tag)
include ht

theorem tokenCheck_scopeRefusal {r : Reason} (hs : s.scopeRefusal d t = some r) : s.tokenCheck d t = .error r := by
  simp [State.tokenCheck, hform, hv, ht, hs]

variable (hs : s.scopeRefusal d t = none)
include hs

theorem tokenCheck_unchecked (he : s.epochValid = false) : s.tokenCheck d t = .ok true := by
  simp [State.tokenCheck, hform, hv, ht, hs, he]

theorem tokenCheck_ageRefusal (he : s.epochValid = true) {r : Reason} (ha : ageRefusal s.epoch t.issue t.span = some r) :
    s.tokenCheck d t = .error r := by
  simp [State.tokenCheck, hform, hv, ht, hs, he, ha]

theorem tokenCheck_ok (he : s.epochValid = true) (ha : ageRefusal s.epoch t.issue t.span = none) :
    s.tokenCheck d t = .ok false := by
  simp [State.tokenCheck, hform, hv, ht, hs, he, ha]

end

/-- Settles O50: each check of a token that passed the ones before it, by what that check ends with. -/
theorem tokenChecksInOrder : Obligations.TokenChecksInOrder := by
  refine ⟨addEndAround_toNat, foldTag_eq, fun s d t formed hformed => ?_⟩
  have hiff : formed ↔ t.malformed = false := hformed.trans (malformed_eq_false_iff t).symm
  refine ⟨fun hn => tokenCheck_malformed (by simpa [hiff] using hn), fun row hf hrow => ?_⟩
  have hform := hiff.1 hf
  obtain ⟨-, hslot, -, -, hspanMax, -⟩ := hformed.1 hf
  obtain rfl : row = s.keyRow t.keySlot := hrow _ (keySlot_val hslot)
  refine ⟨tokenCheck_keyAbsent hform, tokenCheck_badTag hform, fun hv ht => ⟨fun h0 hne => ?_, fun hstation => ⟨fun hall hne => ?_,
    fun hdock => ?_⟩⟩⟩
  · exact tokenCheck_scopeRefusal hform hv ht (by rw [scopeRefusal_eq, if_neg (not_or.2 ⟨h0, hne⟩)])
  · exact tokenCheck_scopeRefusal hform hv ht (by rw [scopeRefusal_eq, if_pos hstation, if_neg (not_or.2 ⟨hall, hne⟩)])
  · have hs : s.scopeRefusal d t = none := by rw [scopeRefusal_eq, if_pos hstation, if_pos hdock]
    refine ⟨tokenCheck_unchecked hform hv ht hs, fun he age hage => ⟨fun h => ?_, fun hspan hle => ?_, fun hge hle => ?_⟩⟩
    · refine tokenCheck_ok hform hv ht hs he ?_
      simp [ageRefusal, ← hage, h]
    · refine tokenCheck_ageRefusal hform hv ht hs he ?_
      have hout : ¬ (age < t.span.toNat ∨ age = 65535) := by omega
      simp [ageRefusal, ← hage, hout, hle]
    · refine tokenCheck_ageRefusal hform hv ht hs he ?_
      have hout : ¬ (age < t.span.toNat ∨ age = 65535) := by omega
      have hgt : ¬ age ≤ 32767 := by omega
      simp [ageRefusal, ← hage, hout, hgt]

end Sys2Proof.Machine
end

section
/-! Staged rows: what a commit reads of them (R157) and what a commit of CLASS, KEY and PARAM rows leaves (R159). -/

namespace Sys2Proof.Machine

/-! ## Rows as bytes (10.7) -/

/-- The four named bytes of a word. -/
theorem wordByte_append (b3 b2 b1 b0 : Byte) (w : Word) (hw : w = (b3 ++ b2) ++ (b1 ++ b0)) :
    wordByte w 3 = b3 ∧ wordByte w 2 = b2 ∧ wordByte w 1 = b1 ∧ wordByte w 0 = b0 := by
  subst hw
  refine ⟨?_, ?_, ?_, ?_⟩ <;>
  · apply BitVec.eq_of_getLsbD_eq
    intro i hi
    simp only [wordByte, BitVec.getLsbD_extractLsb', BitVec.getLsbD_append, hi, decide_true, Bool.true_and]
    grind

/-- A mask of a DOCK row is the low half of its byte. -/
theorem extract_mask (w : Word) (i : Nat) (c : Fin 4) :
    (w.extractLsb' (8 * i) 4).getLsbD c.val = (wordByte w i).getLsbD c.val := by
  have h8 : c.val < 8 := by omega
  simp [wordByte, h8]

/-- The kind of a DOCK row by its top byte. -/
theorem readDockRow_kind (ws : List Word) : (readDockRow ws).kind =
    if wordByte (rowWord ws 0) 3 = 1 then .standard else if wordByte (rowWord ws 0) 3 = 2 then .ebike else .empty := by
  simp only [readDockRow, ← BitVec.toNat_inj (x := wordByte _ _)]
  generalize (wordByte (rowWord ws 0) 3).toNat = n
  split <;> simp_all

/-- The level of a DOCK row is held at 3. -/
theorem readDockRow_minLevel (ws : List Word) :
    (readDockRow ws).minLevel.val = min 3 (wordByte (rowWord ws 0) 1).toNat := by
  simp only [readDockRow]
  split
  · next h => exact (Nat.min_eq_left (Nat.le_of_lt h)).symm
  · simp only [Fin.ofNat]; omega

/-- A DOCK row by the bytes of its two words. -/
theorem readDockRow_bytes (kind aliasNo level mode locals islanded x y : Byte) (row : DockDesc)
    (h : row = readDockRow [(kind ++ aliasNo) ++ (level ++ mode), (locals ++ islanded) ++ (x ++ y)]) :
    row.kind = (if kind = 1 then .standard else if kind = 2 then .ebike else .empty) ∧
    row.aliasNo = (if 31 < aliasNo.toNat then 0 else aliasNo) ∧ row.minLevel.val = min 3 level.toNat ∧
    (∀ c : Fin 4, row.localMask.getLsbD c.val = locals.getLsbD c.val ∧
      row.islandedMask.getLsbD c.val = islanded.getLsbD c.val) ∧
    row.mode = if mode = 1 then .close else .mask := by
  generalize hw0 : (kind ++ aliasNo) ++ (level ++ mode) = w0 at h
  generalize hw1 : (locals ++ islanded) ++ (x ++ y) = w1 at h
  obtain ⟨rfl, rfl, rfl, rfl⟩ := wordByte_append _ _ _ _ _ hw0.symm
  obtain ⟨rfl, rfl, _, _⟩ := wordByte_append _ _ _ _ _ hw1.symm
  subst h
  exact ⟨readDockRow_kind _, rfl, readDockRow_minLevel _, fun c => ⟨extract_mask w1 3 c, extract_mask w1 2 c⟩, rfl⟩

theorem bne_eq_decide_ne {n : Nat} (a b : BitVec n) : (a != b) = decide (a ≠ b) := by
  simp [bne, BEq.beq]

theorem readClassRow_bytes (limit ebike charge x : Byte) : readClassRow [(limit ++ ebike) ++ (charge ++ x)] =
    { limit := min 15 limit.toNat, ebike := decide (ebike ≠ 0), charge := decide (charge ≠ 0) } := by
  obtain ⟨h3, h2, h1, _⟩ := wordByte_append limit ebike charge x _ rfl
  simp only [readClassRow, rowWord, List.getD_cons_zero, h3, h2, h1, bne_eq_decide_ne]

theorem readKeyRow_words (v a b c d e : Word) : readKeyRow [v, a, b, c, d, e] =
    { valid := decide (v ≠ 0), k0 := a, k1 := b, k2 := c, k3 := d, k4 := e } := by
  simp only [readKeyRow, rowWord, bne_eq_decide_ne]
  rfl

/-! ## Commits of CLASS and KEY rows (R159) -/

theorem commitRows_cls {l : Loader} (h : l.table = some .cls) (s : State) :
    s.commitRows l = { s with classes := s.overlayClasses l.staging } := by simp only [State.commitRows, h]

theorem commitRows_key {l : Loader} (h : l.table = some .key) (s : State) :
    s.commitRows l = { s with keys := s.overlayKeys l.staging } := by simp only [State.commitRows, h]

theorem overlayClasses_get (s : State) (staging : List (Nat × List Word)) (c : Fin 4) :
    (s.overlayClasses staging).get c =
      match stagedRow staging c.val with | some ws => readClassRow ws | none => s.classRow c := by
  rw [State.overlayClasses, tabulate_get]
  cases stagedRow staging c.val <;> rfl

theorem overlayKeys_get (s : State) (staging : List (Nat × List Word)) (k : Fin 4) :
    (s.overlayKeys staging).get k =
      match stagedRow staging k.val with | some ws => readKeyRow ws | none => s.keyRow k := by
  rw [State.overlayKeys, tabulate_get]
  cases stagedRow staging k.val <;> rfl

/-! ## Commits of PARAM rows (R150, R159) -/

theorem passAfterCommit_params (s : State) (m : StringId) : (s.passAfterCommit m).params = s.params := by
  unfold State.passAfterCommit
  split
  · split
    · simp [State.emptySlot]
    · rfl
  · rfl

theorem commitStrings_params (new old : State) : (new.commitStrings old).params = new.params := by
  simp [State.commitStrings, passAfterCommit_params]

theorem commitRows_params {l : Loader} (h : l.table = some .param) (s : State) :
    (s.commitRows l).params = overlayParams s.params l.staging := by
  simp only [State.commitRows, State.newParams, h, commitStrings_params, State.commitDocks, if_true]

theorem stagedRow_cons_self (row : Nat) (ws : List Word) (rest : List (Nat × List Word)) :
    stagedRow ((row, ws) :: rest) row = some ws := by simp [stagedRow]

theorem stagedRow_cons_ne {row j : Nat} (h : row ≠ j) (ws : List Word) (rest : List (Nat × List Word)) :
    stagedRow ((row, ws) :: rest) j = stagedRow rest j := by simp [stagedRow, h]

theorem stagedRow_eq_none {staging : List (Nat × List Word)} {j : Nat} (h : ∀ r ∈ staging.map Prod.fst, r ≠ j) :
    stagedRow staging j = none := by
  simpa [stagedRow] using h

/-- A field of the PARAM table that row `j` alone writes, after rows are laid over in row order: from the staged row `j`, if
there is one, else as before. -/
theorem overlayParams_field {α : Type} {g : Params → α} {j : Nat} {f : List Word → α}
    (hg : ∀ p row ws, g (overlayParam p row ws) = if row = j then f ws else g p) {staging : List (Nat × List Word)}
    (hs : (staging.map Prod.fst).Pairwise (· < ·)) (p : Params) :
    g (overlayParams p staging) = (stagedRow staging j).elim (g p) f := by
  induction staging generalizing p with
  | nil => rfl
  | cons x rest ih =>
    obtain ⟨row, ws⟩ := x
    obtain ⟨hlt, hrest⟩ := List.pairwise_cons.1 hs
    refine (ih hrest (overlayParam p row ws)).trans ?_
    rw [hg]
    by_cases hrow : row = j
    · subst hrow
      rw [stagedRow_eq_none fun r hr => Nat.ne_of_gt (hlt r hr), stagedRow_cons_self]
      exact if_pos rfl
    · rw [stagedRow_cons_ne hrow, if_neg hrow]

/-- A staged time, clamped to its range (R150, R157). -/
def rowTime (lo hi : Nat) (ws : List Word) : Nat := clamp lo hi (rowWord ws 0).toNat

/-- Which row writes each field of the PARAM table, and what it writes. -/
theorem overlayParam_fields :
    (∀ p row ws, (overlayParam p row ws).presenceTimeout = if row = 0 then rowTime 5 120 ws else p.presenceTimeout) ∧
    (∀ p row ws, (overlayParam p row ws).referralTimeout = if row = 1 then rowTime 1 15 ws else p.referralTimeout) ∧
    (∀ p row ws, (overlayParam p row ws).liftTimeout = if row = 2 then rowTime 5 60 ws else p.liftTimeout) ∧
    (∀ p row ws, (overlayParam p row ws).epochLength = if row = 3 then rowTime 60 3600 ws else p.epochLength) ∧
    (∀ p row ws, (overlayParam p row ws).rangeA = if row = 4 then readRange ws else p.rangeA) ∧
    (∀ p row ws, (overlayParam p row ws).rangeB = if row = 5 then readRange ws else p.rangeB) := by
  refine ⟨?_, ?_, ?_, ?_, ?_, ?_⟩ <;>
  · intro p row ws
    unfold overlayParam
    split <;> simp_all [rowTime]

/-- The PARAM table after rows are laid over it in row order, field by field. -/
theorem overlayParams_eq (p : Params) {staging : List (Nat × List Word)}
    (hs : (staging.map Prod.fst).Pairwise (· < ·)) : overlayParams p staging =
      { presenceTimeout := (stagedRow staging 0).elim p.presenceTimeout (rowTime 5 120)
        referralTimeout := (stagedRow staging 1).elim p.referralTimeout (rowTime 1 15)
        liftTimeout := (stagedRow staging 2).elim p.liftTimeout (rowTime 5 60)
        epochLength := (stagedRow staging 3).elim p.epochLength (rowTime 60 3600)
        rangeA := (stagedRow staging 4).elim p.rangeA readRange
        rangeB := (stagedRow staging 5).elim p.rangeB readRange } := by
  obtain ⟨h0, h1, h2, h3, h4, h5⟩ := overlayParam_fields
  rw [← overlayParams_field h0 hs, ← overlayParams_field h1 hs, ← overlayParams_field h2 hs,
    ← overlayParams_field h3 hs, ← overlayParams_field h4 hs, ← overlayParams_field h5 hs]

/-- Settles O18: the rows read byte by byte, the commits by the rows laid over the live table. -/
theorem rowsReadAndCommitted : Obligations.RowsReadAndCommitted := by
  refine ⟨readDockRow_bytes, readClassRow_bytes, readKeyRow_words, fun l s t ht => ⟨fun h => ?_, fun h => ?_,
    fun h hs word hword time htime range hrange => ?_⟩⟩
  · rw [commitRows_cls h] at ht
    subst ht
    exact ⟨rfl, overlayClasses_get s l.staging⟩
  · rw [commitRows_key h] at ht
    subst ht
    exact ⟨rfl, overlayKeys_get s l.staging⟩
  · have htime' : ∀ j lo hi old, time j lo hi old = (stagedRow l.staging j).elim old (rowTime lo hi) := by
      intro j lo hi old
      rw [htime, hword]
      cases stagedRow l.staging j <;> rfl
    have hrange' : ∀ j old, range j old = (stagedRow l.staging j).elim old readRange := by
      intro j old
      rw [hrange, hword]
      cases stagedRow l.staging j <;> rfl
    rw [ht, commitRows_params h, overlayParams_eq _ hs]
    simp only [htime', hrange']

end Sys2Proof.Machine
end

section
/-! QUERY and the Key Table: the words K0 to K4 are read by no QUERY (R164). -/

namespace Sys2Proof.Machine

/-! ## The Key Table replaced -/

/-- The state with the Key Table replaced. -/
def State.withKeys (s : State) (keys : Vector KeyRow 4) : State := { s with keys := keys }

theorem withKeys_offer (s : State) (keys : Vector KeyRow 4) (f : Uplink) :
    (s.withKeys keys).offer f = (s.offer f).withKeys keys := by
  rcases offer_cases s f with ⟨hroom, he⟩ | ⟨hfull, he⟩ <;> rw [he]
  · exact if_pos hroom
  · exact if_neg (by simpa [State.withKeys] using hfull)

theorem withKeys_heard (s : State) (keys : Vector KeyRow 4) : (s.withKeys keys).heard = s.heard.withKeys keys := by
  have hon : (s.withKeys keys).goOnline = s.goOnline.withKeys keys := by
    unfold State.goOnline
    exact withKeys_offer ({ s with condition := .online }.startPresence) keys _
  have hret : (s.withKeys keys).returnOnline = s.returnOnline.withKeys keys := by
    unfold State.returnOnline
    rw [hon]
    rfl
  have hcond : (s.withKeys keys).condition = s.condition := rfl
  unfold State.heard
  rw [hcond]
  cases s.condition with
  | online => rfl
  | islanded => exact hret

theorem keyRowItems_congr {s t : State} (h : ∀ k, (s.keyRow k).valid = (t.keyRow k).valid) :
    s.keyRowItems = t.keyRowItems := by
  simp only [State.keyRowItems, keyRowItem, h]

theorem withKeys_takeCounters (s : State) (keys : Vector KeyRow 4) (clear : Bool) :
    takeCounters clear (s.withKeys keys) = (takeCounters clear s).withKeys keys := by
  unfold takeCounters
  have hoffer : (s.withKeys keys).offer (s.withKeys keys).counterReply = (s.offer s.counterReply).withKeys keys :=
    withKeys_offer ..
  have hroom : (s.withKeys keys).hasRoom = s.hasRoom := rfl
  rw [hoffer, hroom]
  split <;> rfl

/-- A QUERY reads the valid flags of the Key Table alone. -/
theorem withKeys_takeQuery (s : State) (keys : Vector KeyRow 4) (body : List Byte)
    (h : ∀ k, (keys.get k).valid = (s.keyRow k).valid) :
    takeQuery body (s.withKeys keys) = (takeQuery body s).withKeys keys := by
  unfold takeQuery
  simp only
  split
  case h_4 => rw [keyRowItems_congr (s := s.withKeys keys) h]; exact withKeys_offer ..
  case h_9 => exact withKeys_takeCounters ..
  all_goals exact withKeys_offer ..

/-- Settles O38: acceptance, judgement and reply of a QUERY are the same on both stations, case by case. -/
theorem keyWordsAreNeverSent : Obligations.KeyWordsAreNeverSent := by
  intro i code body s t keys hi hb hd hv hexec
  change exec i (s.withKeys keys) = .next (t.withKeys keys)
  rw [exec_of_frameOf hi, receive_eq hd _ _ hb] at hexec
  rw [exec_of_frameOf hi, receive_eq (s := s.withKeys keys) hd _ _ hb]
  have haccept : (s.withKeys keys).acceptFrame .query body = (s.acceptFrame .query body).withKeys keys := by
    unfold State.acceptFrame
    rw [withKeys_heard]
    split
    · exact withKeys_takeQuery s.heard keys body (by simpa [State.keyRow] using hv)
    · rfl
  have hlowSame : (s.withKeys keys).resetnLow = s.resetnLow := rfl
  have hcodeSame : (s.withKeys keys).codeMatches code = s.codeMatches code := rfl
  rw [haccept, hlowSame, hcodeSame]
  cases hexec
  by_cases hlow : s.resetnLow = true
  · simp only [if_pos hlow]
  · by_cases hcode : s.codeMatches code = true
    · simp only [if_neg hlow, if_pos hcode]
    · simp only [if_neg hlow, if_neg hcode]
      rfl

end Sys2Proof.Machine
end

section
/-! Resets: every block at its power-on values after power-on and a full station reset (R174, R178), and what these values keep. -/

namespace Sys2Proof.Machine

/-! ## The power-on values -/

@[simp] theorem vector_get_replicate {α : Type} {n : Nat} (x : α) (i : Fin n) : (Vector.replicate n x).get i = x := by
  simp [Vector.get]

/-- Every block of a station made blank holds its power-on values. -/
theorem blankStation_atPowerOn (s : State) (stationCode : BitVec 12) (first : StationReport) :
    AtPowerOn (s.blankStation stationCode first) := by
  have hbucket : ∀ (b : Fin 1024) (w : Fin 4),
      ((Vector.replicate 1024 (Vector.replicate 4 (none : Option RiderEntry))).get b).get w = none := by simp
  refine ⟨⟨rfl, rfl, rfl, rfl, rfl⟩, ⟨rfl, rfl, rfl, rfl⟩, ⟨rfl, rfl, rfl, rfl⟩, ⟨rfl, rfl, rfl, rfl, rfl, rfl, rfl, rfl, rfl⟩,
    fun m => ?_, ⟨rfl, rfl, rfl, rfl, rfl, rfl⟩, vector_get_replicate _, vector_get_replicate _, vector_get_replicate _,
    vector_get_replicate _, hbucket, rfl, rfl, rfl, rfl⟩
  cases m <;> exact ⟨rfl, rfl, rfl, rfl, rfl, rfl, rfl, rfl⟩

/-- An accepted STATION_RESET of scope 2 is taken as a full reset, without a return to online (R116). -/
theorem acceptFrame_fullReset (s : State) : s.acceptFrame .stationReset [2] = takeFullReset s := rfl

/-- Settles O2: both resets make the station blank. -/
theorem powerOnAndFullReset : Obligations.PowerOnAndFullReset := by
  refine ⟨fun straps s => ⟨takePowerOn straps s, rfl, blankStation_atPowerOn _ _ _, rfl, rfl, rfl, rfl⟩,
    fun code s h => ⟨takeFullReset s, ?_, blankStation_atPowerOn _ _ _, rfl, rfl, rfl, rfl⟩⟩
  have hlen : [(2 : Byte)].length ≤ 1024 := by decide
  rw [exec_of_frameOf (i := .stationResetFull code [2]) rfl, receive_accepted h .stationReset hlen, acceptFrame_fullReset]

/-! ## The invariants at the power-on values -/

section
variable {t : State} (h : AtPowerOn t)
include h

theorem AtPowerOn.str_initial (m : StringId) : (t.str m).line = .idle ∧ (t.str m).cycle = 0 ∧ (t.str m).position = none ∧
    (t.str m).exchange = none ∧ (t.str m).stuck = 0 ∧ (t.str m).recoveryTimer = none ∧ (t.str m).driverEnable = false := by
  obtain ⟨-, -, -, -, hstr, -⟩ := h
  obtain ⟨hline, hcycle, hpos, hex, -, hstuck, htimer, hdriver⟩ := hstr m
  exact ⟨hline, hcycle, hpos, hex, hstuck, htimer, hdriver⟩

theorem AtPowerOn.ctx_blank (d : DockNo) : t.ctx d = .blank := by
  obtain ⟨-, -, -, -, -, -, -, hctx, -⟩ := h
  exact hctx d

/-- No dock is polled: every descriptor is EMPTY. -/
theorem AtPowerOn.not_polled (d : DockNo) : t.polled d = false := by
  obtain ⟨-, -, -, -, -, -, hdesc, -⟩ := h
  simp [State.polled, polledOn, hdesc d]

theorem AtPowerOn.members_nil (m : StringId) : t.members m = [] := by
  simp [State.members, State.member, h.not_polled]

theorem AtPowerOn.lists_nil : t.blocks = [] ∧ t.records = [] := by
  obtain ⟨-, -, -, -, -, -, -, -, -, -, -, -, hblocks, hrecords, -⟩ := h
  exact ⟨hblocks, hrecords⟩

theorem AtPowerOn.countsBounded (hu : t.uplink.length ≤ 64) : CountsBounded t := by
  have hctx := h.ctx_blank
  have hstr := h.str_initial
  obtain ⟨⟨-, -, hbad, hforeign, hdrops⟩, ⟨-, -, htime, hgrants⟩, ⟨-, -, -, hbehind⟩, ⟨-, -, -, -, -, -, hdone, -⟩, -, -, -, -,
    -, -, -, hclose, -⟩ := h
  refine ⟨hu, by omega, by omega, by omega, by omega, by omega, by omega, by omega, by omega, fun m => ?_, fun d => ?_⟩
  · obtain ⟨-, -, -, -, hstuck, -⟩ := hstr m
    omega
  · rw [hctx]
    decide

theorem AtPowerOn.blockListOrdered : BlockListOrdered t := by
  simp [BlockListOrdered, h.lists_nil]

theorem AtPowerOn.riderTableSound : RiderTableSound t := by
  obtain ⟨-, -, -, -, -, -, -, -, -, -, hrid, -⟩ := h
  simp [RiderTableSound, hrid]

theorem AtPowerOn.releasesSound : ReleasesSound t := by
  obtain ⟨-, hrecords⟩ := h.lists_nil
  have hheld : ∀ d, ¬Held (t.ctx d) := fun d => by rw [h.ctx_blank]; simp [Held, DockContext.blank]
  refine ⟨⟨by simp [hrecords], by simp [hrecords], by simp [hrecords], by simp [hrecords], fun d hd => absurd hd (hheld d),
    fun d hd => ?_, fun d => ?_⟩, by simp [hrecords], by simp [CountedRidersKept, hrecords]⟩
  · rw [h.ctx_blank] at hd
    cases hd
  · simp [h.ctx_blank, h.not_polled, DockContext.blank]

theorem AtPowerOn.conditionSound : ConditionSound t := by
  obtain ⟨-, hrecords⟩ := h.lists_nil
  obtain ⟨-, ⟨hcond, hpresence, -, -⟩, ⟨hvalid, hepoch, htimer, -⟩, -⟩ := h
  simp [ConditionSound, *]

theorem AtPowerOn.loadsSound : LoadsSound t := by
  obtain ⟨-, -, -, ⟨hstate, htable, hwindow, hbuffer, hstaging, -, -, -, hbatch⟩, -⟩ := h
  simp [LoadsSound, LoaderSound, BatchSound, *]

theorem AtPowerOn.stringsSound (hp : ∀ m, (t.str m).pulses = 0) : StringsSound t := by
  intro m
  obtain ⟨hline, hcycle, hpos, hex, -, htimer, hdriver⟩ := h.str_initial m
  simp [StringSound, h.members_nil, *]

theorem AtPowerOn.deframerSound : DeframerSound t := by
  obtain ⟨⟨-, hdeframer, -⟩, -⟩ := h
  simp [DeframerSound, hdeframer, Deframer.initial]

end

/-- The state after reset is a station made blank at straps 0. -/
theorem reset_atPowerOn : AtPowerOn State.reset := blankStation_atPowerOn State.reset 0 (.powerOn 0)

/-- Settles O3: the power-on values meet every invariant. -/
theorem resetStateIsSound : Obligations.ResetStateIsSound := by
  have h := reset_atPowerOn
  have hpulses : ∀ m, (State.reset.str m).pulses = 0 := fun m => by cases m <;> rfl
  exact ⟨⟨h, rfl, rfl⟩, ⟨h.countsBounded (by decide), h.blockListOrdered, h.riderTableSound, h.releasesSound⟩, h.conditionSound,
    h.loadsSound, h.stringsSound hpulses, h.deframerSound⟩

end Sys2Proof.Machine
end

section
/-! Sequence windows: the judgement of a sequence by its distance from top, and the window it leaves (R25). -/

namespace Sys2Proof.Machine

/-! ## A number joins a used set -/

theorem mem_joinUsed (top n m : Half) (used : List Half) : m ∈ joinUsed top n used ↔ m = n ∨ m ∈ used := by
  induction used with
  | nil => simp [joinUsed]
  | cons x rest ih =>
    unfold joinUsed
    split
    · simp
    · simp only [List.mem_cons, ih]
      tauto

/-- A number other than top is never listed before top. -/
theorem joinUsed_head {top n : Half} {used : List Half} (h : used.head? = some top) :
    (joinUsed top n used).head? = some top := by
  cases used with
  | nil => cases h
  | cons x rest =>
    obtain rfl : x = top := by simpa using h
    simp [joinUsed]

/-- Numbers equally far behind top are equal. -/
theorem behind_injective {top n m : Half} (h : (top - n).toNat = (top - m).toNat) : n = m := by bv_omega

theorem joinUsed_pairwise {top n : Half} {used : List Half} (hn : n ∉ used)
    (h : (used.map fun m => (top - m).toNat).Pairwise (· < ·)) :
    ((joinUsed top n used).map fun m => (top - m).toNat).Pairwise (· < ·) := by
  induction used with
  | nil => simp [joinUsed]
  | cons x rest ih =>
    obtain ⟨hnx, hrest⟩ : n ≠ x ∧ n ∉ rest := by simpa using hn
    obtain ⟨hx, hp⟩ := List.pairwise_cons.1 h
    unfold joinUsed
    split
    · next hlt =>
      refine List.pairwise_cons.2 ⟨fun b hb => ?_, h⟩
      rcases List.mem_cons.1 hb with rfl | hb
      · exact hlt
      · exact hlt.trans (hx b hb)
    · next hge =>
      have hne : (top - n).toNat ≠ (top - x).toNat := fun e => hnx (behind_injective e)
      refine List.pairwise_cons.2 ⟨fun b hb => ?_, ih hrest hp⟩
      obtain ⟨m, hm, rfl⟩ := List.mem_map.1 hb
      rcases (mem_joinUsed top n m rest).1 hm with rfl | hm
      · exact Nat.lt_of_le_of_ne (Nat.le_of_not_lt hge) hne.symm
      · exact hx _ (List.mem_map_of_mem hm)

/-! ## The judgement (R25) -/

/-- A sequence ahead of top becomes top; of the used set the numbers within 15 of it stay. -/
theorem judgeSeq_ahead {top n : Half} (used : List Half) (h1 : 1 ≤ (n - top).toNat) (h2 : (n - top).toNat ≤ 32767) :
    judgeSeq (some top) used n = .accepted n (n :: used.filter fun m => decide ((n - m).toNat ≤ 15)) := by
  have hne : (n - top).toNat ≠ 0 := by omega
  simp only [judgeSeq, hne, h2, if_true, if_false]

/-- A sequence up to 15 behind top is a REPLAY when it is used, and joins the used set when it is not. -/
theorem judgeSeq_behind {top n : Half} (used : List Half) (h1 : 32768 ≤ (n - top).toNat) (h2 : 65536 - (n - top).toNat ≤ 15) :
    judgeSeq (some top) used n = if n ∈ used then .replay else .accepted top (joinUsed top n used) := by
  have hne : (n - top).toNat ≠ 0 := by omega
  have hgt : ¬ (n - top).toNat ≤ 32767 := by omega
  simp only [judgeSeq, hne, hgt, h2, if_true, if_false]

/-- A sequence 16 or more behind top is STALE. -/
theorem judgeSeq_stale {top n : Half} (used : List Half) (h1 : 32768 ≤ (n - top).toNat) (h2 : 16 ≤ 65536 - (n - top).toNat) :
    judgeSeq (some top) used n = .stale := by
  have hne : (n - top).toNat ≠ 0 := by omega
  have hgt : ¬ (n - top).toNat ≤ 32767 := by omega
  have hfar : ¬ 65536 - (n - top).toNat ≤ 15 := by omega
  simp only [judgeSeq, hne, hgt, hfar, if_false]

/-- Settles O52: the judgement by the distance of the sequence from top. -/
theorem sequenceJudgement : Obligations.SequenceJudgement := by
  refine ⟨fun n => rfl, fun top n used _ d hd => ?_⟩
  subst hd
  refine ⟨fun h0 => by simp [judgeSeq, h0], fun h1 h2 => ⟨_, judgeSeq_ahead used h1 h2, fun m => by simp⟩,
    fun h1 => ⟨fun h2 hn => ?_, fun h2 hn => ⟨joinUsed top n used, ?_, fun m => mem_joinUsed top n m used⟩, judgeSeq_stale used h1⟩⟩
  · rw [judgeSeq_behind used h1 h2, if_pos hn]
  · rw [judgeSeq_behind used h1 h2, if_neg hn]

/-! ## The window a judgement leaves -/

/-- The window of a sequence ahead of a sound window's top: distances from the new top are those from the old, all by the same
step more, so their order stays. -/
theorem windowSound_ahead {top n : Half} {used : List Half} (h1 : 1 ≤ (n - top).toNat) (h2 : (n - top).toNat ≤ 32767)
    (hp : (used.map fun m => (top - m).toNat).Pairwise (· < ·)) (hle : ∀ m ∈ used, (top - m).toNat ≤ 15) :
    ((n :: used.filter fun m => decide ((n - m).toNat ≤ 15)).map fun m => (n - m).toNat).Pairwise (· < ·) := by
  have hshift : ∀ m ∈ used, (n - m).toNat = (n - top).toNat + (top - m).toNat := fun m hm => by
    have := hle m hm
    bv_omega
  refine List.pairwise_cons.2 ⟨fun b hb => ?_, ?_⟩
  · obtain ⟨m, hm, rfl⟩ := List.mem_map.1 hb
    have := hshift m (List.mem_filter.1 hm).1
    simp only [BitVec.sub_self]
    rw [this]
    exact Nat.lt_of_lt_of_le h1 (Nat.le_add_right _ _)
  · have hused : (used.map fun m => (n - m).toNat).Pairwise (· < ·) := by
      rw [List.pairwise_map] at hp ⊢
      refine hp.imp_of_mem fun ha hb hlt => ?_
      rw [hshift _ ha, hshift _ hb]
      omega
    exact hused.sublist (List.filter_sublist.map _)

/-- An accepted sequence leaves a sound window. -/
theorem windowSound_judgeSeq {e : RiderEntry} (h : WindowSound e) {n top : Half} {used : List Half}
    (hj : judgeSeq e.top e.used n = .accepted top used) : WindowSound (e.setWindow top used) := by
  have hgoal : WindowSound (e.setWindow top used) ↔ used.head? = some top ∧
      (used.map fun m => (top - m).toNat).Pairwise (· < ·) ∧ ∀ m ∈ used, (top - m).toNat ≤ 15 := Iff.rfl
  rw [hgoal]
  cases ht : e.top with
  | none =>
    obtain ⟨rfl, rfl⟩ : n = top ∧ [n] = used := by simpa [judgeSeq, ht] using hj
    exact ⟨rfl, List.pairwise_singleton _ _, fun m hm => by rw [List.mem_singleton.1 hm, BitVec.sub_self]; decide⟩
  | some t =>
    obtain ⟨hhead, hp, hle⟩ : e.used.head? = some t ∧ (e.used.map fun m => (t - m).toNat).Pairwise (· < ·) ∧
        ∀ m ∈ e.used, (t - m).toNat ≤ 15 := by simpa only [WindowSound, ht] using h
    rw [ht] at hj
    rcases Nat.lt_or_ge (n - t).toNat 1 with h0 | h1
    · have h0 : (n - t).toNat = 0 := by omega
      simp [judgeSeq, h0] at hj
    rcases Nat.lt_or_ge 32767 (n - t).toNat with hfar | h2
    · rcases Nat.lt_or_ge 15 (65536 - (n - t).toNat) with hstale | hnear
      · rw [judgeSeq_stale _ hfar hstale] at hj
        cases hj
      · rw [judgeSeq_behind _ hfar hnear] at hj
        split at hj
        · cases hj
        · next hn =>
          cases hj
          refine ⟨joinUsed_head hhead, joinUsed_pairwise hn hp, fun m hm => ?_⟩
          rcases (mem_joinUsed _ _ _ _).1 hm with rfl | hm
          · bv_omega
          · exact hle m hm
    · rw [judgeSeq_ahead _ h1 h2] at hj
      cases hj
      refine ⟨rfl, windowSound_ahead h1 h2 hp hle, fun m hm => ?_⟩
      rcases List.mem_cons.1 hm with rfl | hm
      · simp
      · exact of_decide_eq_true (List.mem_filter.1 hm).2

end Sys2Proof.Machine
end

section
/-! The Rider Table: what writing one way leaves of the lookups, the way an insert takes or evicts (R16 to R19), and the
operations on one rider: CREDIT, CLOSE_RIDE, the refund of a removal, the drop-pending test (R23, R30, R31, R84). -/

namespace Sys2Proof.Machine

variable {s : State} {k k' : Key}

/-! ## One way written -/

theorem get_set_way (b : Bucket) (w v : Fin 4) (x : Option RiderEntry) :
    (b.set w x).get v = if w = v then x else b.get v := by
  split
  · next h => rw [← h]; exact vector_get_set_self b w x
  · next h => exact vector_get_set_ne b h x

/-- A way of the Rider Table after one way has been written. -/
theorem get_bucket_setWay (s : State) (b c : Fin 1024) (w v : Fin 4) (x : Option RiderEntry) :
    ((s.setWay b w x).bucket c).get v = if b = c ∧ w = v then x else (s.bucket c).get v := by
  by_cases h : b = c
  · subst h
    simp [bucket_setWay_self, get_set_way]
  · simp [bucket_setWay_ne _ _ _ h, h]

theorem mem_ways (w : Fin 4) : w ∈ ways := by revert w; decide

theorem holdsKey_some (k : Key) (e : RiderEntry) : holdsKey k (some e) = true ↔ e.key = k := by simp [holdsKey]

/-- A key is found exactly when some way of its bucket holds it. -/
theorem lookup_isSome_iff : (s.lookup k).isSome = true ↔ k ≠ 0 ∧ ∃ w, holdsKey k ((s.bucket (bucketOf k)).get w) = true := by
  constructor
  · intro h
    obtain ⟨e, he⟩ := Option.isSome_iff_exists.1 h
    obtain ⟨w, hw, -⟩ := lookup_eq_some.1 he
    obtain ⟨hk, e', he', hek⟩ := wayOf_some hw
    exact ⟨hk, w, by simp [he', holdsKey, hek]⟩
  · rintro ⟨hk, w, hw⟩
    by_contra hn
    have hnone : wayOf (s.bucket (bucketOf k)) k = none := lookup_eq_none.1 (by simpa using hn)
    simp only [wayOf, hk, if_false] at hnone
    exact absurd hw (List.find?_eq_none.1 hnone w (mem_ways w))

/-- Where neither the entry written over nor the entry written has a key, the lookup of that key is kept. -/
theorem lookup_setWay_other {b : Fin 1024} {w : Fin 4} {x : Option RiderEntry}
    (hold : holdsKey k ((s.bucket b).get w) = false) (hnew : holdsKey k x = false) : (s.setWay b w x).lookup k = s.lookup k := by
  by_cases hb : b = bucketOf k
  · subst hb
    have hways : wayOf ((s.setWay (bucketOf k) w x).bucket (bucketOf k)) k = wayOf (s.bucket (bucketOf k)) k :=
      wayOf_congr fun v => by
        rw [get_bucket_setWay]
        split
        · next h => rw [hnew, ← h.2, hold]
        · rfl
    unfold State.lookup
    rw [hways]
    cases hv : wayOf (s.bucket (bucketOf k)) k with
    | none => rfl
    | some v =>
      obtain ⟨-, e, he, hek⟩ := wayOf_some hv
      have hne : w ≠ v := by
        rintro rfl
        simp [he, holdsKey, hek] at hold
      simp [get_bucket_setWay, hne]
  · simp [State.lookup, bucket_setWay_ne _ _ _ hb]

/-- A key written where it was absent is found with its entry. -/
theorem lookup_setWay_new {e : RiderEntry} (hk : e.key ≠ 0) (habsent : s.lookup e.key = none) (w : Fin 4) :
    (s.setWay (bucketOf e.key) w (some e)).lookup e.key = some e := by
  have hsome : ((s.setWay (bucketOf e.key) w (some e)).lookup e.key).isSome = true :=
    lookup_isSome_iff.2 ⟨hk, w, by rw [get_bucket_setWay, if_pos ⟨rfl, rfl⟩, holdsKey_some]⟩
  obtain ⟨e', he'⟩ := Option.isSome_iff_exists.1 hsome
  obtain ⟨v, hv, hget⟩ := lookup_eq_some.1 he'
  rw [he']
  rw [get_bucket_setWay] at hget
  split at hget
  · exact hget.symm
  · have hsome : (s.lookup e.key).isSome = true :=
      lookup_isSome_iff.2 ⟨hk, v, by rw [hget, holdsKey_some]; exact (lookup_key he').1⟩
    simp [habsent] at hsome

/-! ## Removal -/

/-- Where an entry is removed from: the way the lookup finds, or nowhere. -/
theorem dropRider_cases (s : State) (k : Key) : (s.lookup k = none ∧ s.dropRider k = s) ∨
    ∃ w, holdsKey k ((s.bucket (bucketOf k)).get w) = true ∧ s.dropRider k = s.setWay (bucketOf k) w none := by
  unfold State.dropRider
  split
  · next h => exact .inl ⟨lookup_eq_none.2 h, rfl⟩
  · next w h =>
    obtain ⟨-, e, he, hek⟩ := wayOf_some h
    exact .inr ⟨w, by rw [he, holdsKey_some]; exact hek, rfl⟩

/-- Where an entry's way is written by its change: the way the lookup finds, or nowhere. -/
theorem modRider_cases (s : State) (k : Key) (f : RiderEntry → RiderEntry) : (s.lookup k = none ∧ s.modRider k f = s) ∨
    ∃ w e, s.lookup k = some e ∧ (s.bucket (bucketOf k)).get w = some e ∧
      s.modRider k f = s.setWay (bucketOf k) w (some (f e)) := by
  unfold State.modRider
  split
  · next h => exact .inl ⟨lookup_eq_none.2 h, rfl⟩
  · next w h =>
    obtain ⟨-, e, he, -⟩ := wayOf_some h
    exact .inr ⟨w, e, lookup_eq_some.2 ⟨w, h, he⟩, he, by simp [he]⟩

/-- No way holds two keys. -/
theorem holdsKey_ne {x : Option RiderEntry} (h : holdsKey k x = true) (hne : k' ≠ k) : holdsKey k' x = false := by
  cases x with
  | none => rfl
  | some e =>
    have := (holdsKey_some k e).1 h
    subst this
    simpa [holdsKey] using hne.symm

theorem lookup_dropRider_ne (s : State) (h : k' ≠ k) : (s.dropRider k).lookup k' = s.lookup k' := by
  rcases dropRider_cases s k with ⟨-, he⟩ | ⟨w, hw, he⟩ <;> rw [he]
  exact lookup_setWay_other (holdsKey_ne hw h) rfl

/-- In a table that holds no key twice, a removed key is absent. -/
theorem lookup_dropRider_self (hs : RiderTableSound s) : (s.dropRider k).lookup k = none := by
  rcases dropRider_cases s k with ⟨hn, he⟩ | ⟨w, hw, he⟩ <;> rw [he]
  · exact hn
  · by_contra hn
    obtain ⟨-, v, hv⟩ := lookup_isSome_iff.1 (Option.isSome_iff_ne_none.2 hn)
    rw [get_bucket_setWay] at hv
    split at hv
    · cases hv
    · next hwv =>
      refine hwv ⟨rfl, ?_⟩
      obtain ⟨hall, honce⟩ := hs
      cases hx : (s.bucket (bucketOf k)).get w with
      | none => simp [hx, holdsKey] at hw
      | some e =>
        cases hy : (s.bucket (bucketOf k)).get v with
        | none => simp [hy, holdsKey] at hv
        | some e' =>
          rw [hx, holdsKey_some] at hw
          rw [hy, holdsKey_some] at hv
          exact honce _ _ _ _ _ hx hy (hw.trans hv.symm)

theorem lookup_dropRider (hs : RiderTableSound s) (k k' : Key) :
    (s.dropRider k).lookup k' = if k' = k then none else s.lookup k' := by
  split
  · next h => rw [h]; exact lookup_dropRider_self hs
  · next h => exact lookup_dropRider_ne s h

/-- A change of riders alone, in the form of the statements. -/
theorem modRider_eq (s : State) (k : Key) (f : RiderEntry → RiderEntry) :
    s.modRider k f = { s with riders := (s.modRider k f).riders } := by
  rcases modRider_cases s k f with ⟨-, he⟩ | ⟨w, e, -, -, he⟩
  · rw [he]
  · rw [he]
    rfl

theorem dropRider_eq (s : State) (k : Key) : s.dropRider k = { s with riders := (s.dropRider k).riders } := by
  rcases dropRider_cases s k with ⟨-, he⟩ | ⟨w, -, he⟩
  · rw [he]
  · rw [he]
    rfl

/-! ## Names -/

theorem named_iff : s.named k = true ↔ ∃ r ∈ s.records, r.rider = some k := by simp [State.named]

theorem named_eq_false_iff : s.named k = false ↔ ∀ r ∈ s.records, r.rider ≠ some k := by
  rw [Bool.eq_false_iff, Ne, named_iff]
  simp

theorem evictable_iff (s : State) (e : RiderEntry) :
    s.evictable e = true ↔ e.pinned = false ∧ (∀ r ∈ s.records, r.rider ≠ some e.key) ∧ e.bikesOut = 0 := by
  rw [← named_eq_false_iff]
  simp [State.evictable, and_assoc]

/-! ## The way an insert takes (R18, R19) -/

theorem ways_pairwise : ways.Pairwise (· < ·) := by decide

theorem oldest_mem (s : State) (b : Bucket) : ∀ {l : List (Fin 4)} {w : Fin 4}, s.oldest b l = some w → w ∈ l
  | [], _, h => by cases h
  | a :: rest, w, h => by
    unfold State.oldest at h
    cases hr : s.oldest b rest with
    | none =>
      rw [hr] at h
      cases h
      exact List.mem_cons_self
    | some v =>
      simp only [hr] at h
      split at h <;> cases h
      · exact List.mem_cons_of_mem _ (oldest_mem s b hr)
      · exact List.mem_cons_self

/-- Of ways in ascending order the one of greatest age, the lowest among equals, is the oldest. -/
theorem oldest_eq (s : State) (b : Bucket) : ∀ {l : List (Fin 4)} {w : Fin 4}, l.Pairwise (· < ·) → w ∈ l →
    (∀ v ∈ l, s.wayAge b v < s.wayAge b w ∨ (s.wayAge b v = s.wayAge b w ∧ w ≤ v)) → s.oldest b l = some w
  | a :: rest, w, hl, hw, h => by
    obtain ⟨ha, hrest⟩ := List.pairwise_cons.1 hl
    unfold State.oldest
    rcases List.mem_cons.1 hw with rfl | hmem
    · cases hr : s.oldest b rest with
      | none => rfl
      | some v =>
        have hv := h v (List.mem_cons_of_mem _ (oldest_mem s b hr))
        have hnot : ¬ s.wayAge b w < s.wayAge b v := by omega
        simp [hnot]
    · rw [oldest_eq s b hrest hmem fun v hv => h v (List.mem_cons_of_mem _ hv)]
      have hlt : s.wayAge b a < s.wayAge b w := by
        have := ha w hmem
        rcases h a List.mem_cons_self with h | ⟨-, h⟩
        · exact h
        · omega
      simp [hlt]

theorem oldest_eq_none {b : Bucket} {l : List (Fin 4)} (h : s.oldest b l = none) : l = [] := by
  cases l with
  | nil => rfl
  | cons a rest =>
    unfold State.oldest at h
    cases hr : s.oldest b rest with
    | none => simp [hr] at h
    | some v =>
      simp only [hr] at h
      split at h <;> cases h

theorem mem_waysWhere {b : Bucket} {p : RiderEntry → Bool} {w : Fin 4} :
    w ∈ waysWhere b p ↔ ∃ x, b.get w = some x ∧ p x = true := by
  simp [waysWhere, mem_ways, Option.any_eq_true]

theorem waysWhere_pairwise (b : Bucket) (p : RiderEntry → Bool) : (waysWhere b p).Pairwise (· < ·) :=
  ways_pairwise.sublist List.filter_sublist

/-- The way evicted holds an evictable entry. -/
theorem evictWay_evictable {b : Bucket} {w : Fin 4} (h : s.evictWay b = some w) :
    ∃ x, b.get w = some x ∧ s.evictable x = true := by
  have hmem := oldest_mem s b h
  split at hmem
  · exact mem_waysWhere.1 hmem
  · obtain ⟨x, hx, hp⟩ := mem_waysWhere.1 hmem
    exact ⟨x, hx, by simp only [Bool.and_eq_true] at hp; exact hp.1⟩

/-- An insert takes an empty way or one whose entry is evictable. -/
theorem insertWay_free {b : Bucket} {w : Fin 4} (h : s.insertWay b = some w) :
    b.get w = none ∨ ∃ x, b.get w = some x ∧ s.evictable x = true := by
  unfold State.insertWay at h
  split at h
  · next v hv =>
    cases h
    exact .inl (by simpa using List.find?_some hv)
  · exact .inr (evictWay_evictable h)

/-- The first of the ways that is empty is the lowest empty way. -/
theorem find_empty {b : Bucket} {w : Fin 4} (hw : b.get w = none) (hlow : ∀ v < w, b.get v ≠ none) :
    ways.find? (fun v => (b.get v).isNone) = some w := by
  have hbelow : ∀ v < w, (b.get v).isNone = false := fun v hv => Option.isNone_eq_false_iff.2 (Option.isSome_iff_ne_none.2 (hlow v hv))
  have hhere : (b.get w).isNone = true := by simp [hw]
  match w with
  | 0 => simp [ways, hhere]
  | 1 => simp [ways, hhere, hbelow 0 (by decide)]
  | 2 => simp [ways, hhere, hbelow 0 (by decide), hbelow 1 (by decide)]
  | 3 => simp [ways, hhere, hbelow 0 (by decide), hbelow 1 (by decide), hbelow 2 (by decide)]

/-- In a full bucket an insert takes the way it evicts. -/
theorem insertWay_full {b : Bucket} (h : ∀ w, b.get w ≠ none) : s.insertWay b = s.evictWay b := by
  have hnone : ways.find? (fun v => (b.get v).isNone) = none :=
    List.find?_eq_none.2 fun w _ => by simpa [Option.isNone_iff_eq_none] using h w
  simp [State.insertWay, hnone]

theorem wayAge_eq {b : Bucket} {w : Fin 4} {x : RiderEntry} (h : b.get w = some x) : s.wayAge b w = s.ageOf x := by
  simp [State.wayAge, h]

/-- The eviction choice of R19: among evictable entries the provisional ones first, then the greatest age, then the lowest way. -/
theorem evictWay_eq {b : Bucket} {w : Fin 4} {x : RiderEntry} (hx : b.get w = some x) (hev : s.evictable x = true)
    (hbest : ∀ v y, b.get v = some y → s.evictable y = true → (y.provisional = true → x.provisional = true) ∧
      (y.provisional = x.provisional → s.ageOf y < s.ageOf x ∨ (s.ageOf y = s.ageOf x ∧ w ≤ v))) :
    s.evictWay b = some w := by
  have hage : ∀ v y, b.get v = some y → s.evictable y = true → y.provisional = x.provisional →
      s.wayAge b v < s.wayAge b w ∨ (s.wayAge b v = s.wayAge b w ∧ w ≤ v) := fun v y hy hyev hsame => by
    rw [wayAge_eq hy, wayAge_eq hx]
    exact (hbest v y hy hyev).2 hsame
  unfold State.evictWay
  dsimp only
  split
  · next hempty =>
    refine oldest_eq s b (waysWhere_pairwise _ _) (mem_waysWhere.2 ⟨x, hx, hev⟩) fun v hv => ?_
    obtain ⟨y, hy, hyev⟩ := mem_waysWhere.1 hv
    have hnot : ∀ u z, b.get u = some z → s.evictable z = true → z.provisional = false := fun u z hz hzev => by
      by_contra hp
      have hmem : u ∈ waysWhere b fun e => s.evictable e && e.provisional :=
        mem_waysWhere.2 ⟨z, hz, by simp [hzev, by simpa using hp]⟩
      rw [List.isEmpty_iff.1 hempty] at hmem
      cases hmem
    exact hage v y hy hyev ((hnot v y hy hyev).trans (hnot w x hx hev).symm)
  · next hsome =>
    obtain ⟨u, hu⟩ := List.exists_mem_of_ne_nil _ (fun h => hsome (List.isEmpty_iff.2 h))
    obtain ⟨z, hz, hzp⟩ := mem_waysWhere.1 hu
    obtain ⟨hzev, hzprov⟩ := Bool.and_eq_true_iff.1 hzp
    have hxprov : x.provisional = true := (hbest u z hz hzev).1 hzprov
    refine oldest_eq s b (waysWhere_pairwise _ _) (mem_waysWhere.2 ⟨x, hx, by simp [hev, hxprov]⟩) fun v hv => ?_
    obtain ⟨y, hy, hyp⟩ := mem_waysWhere.1 hv
    obtain ⟨hyev, hyprov⟩ := Bool.and_eq_true_iff.1 hyp
    exact hage v y hy hyev (hyprov.trans hxprov.symm)

theorem insertRider_of_way {e : RiderEntry} (hk : e.key ≠ 0) {w : Fin 4} (h : s.insertWay (s.bucket (bucketOf e.key)) = some w) :
    s.insertRider e = some (s.setWay (bucketOf e.key) w (some e)) := by
  rw [State.insertRider, if_neg hk, h]
  rfl

/-- What an insert that is done has written, and where. -/
theorem insertRider_eq_some {e : RiderEntry} {t : State} (h : s.insertRider e = some t) : e.key ≠ 0 ∧
    ∃ w, s.insertWay (s.bucket (bucketOf e.key)) = some w ∧ t = s.setWay (bucketOf e.key) w (some e) := by
  unfold State.insertRider at h
  split at h
  · cases h
  · next hk =>
    obtain ⟨w, hw, ht⟩ := Option.map_eq_some_iff.1 h
    exact ⟨hk, w, hw, ht.symm⟩

/-- Settles O22: the lowest empty way, else the evictable entry that R19 chooses, else failure. -/
theorem insertTakesEmptyOrEvictedWay : Obligations.InsertTakesEmptyOrEvictedWay := by
  refine ⟨fun k => rfl, fun s e b hk hb evictable hev age hage => ?_⟩
  subst hb
  have hiff : ∀ x, evictable x ↔ s.evictable x = true := fun x => (hev x).trans (evictable_iff s x).symm
  have hageOf : ∀ x, age x = s.ageOf x := hage
  refine ⟨fun w hw hlow => insertRider_of_way hk (by simp [State.insertWay, find_empty hw hlow]), fun hall => ?_,
    fun w x hfull hx hxev hbest => insertRider_of_way hk ?_⟩
  · cases hw : s.insertWay (s.bucket (bucketOf e.key)) with
    | none => rw [State.insertRider, if_neg hk, hw]; rfl
    | some w =>
      obtain ⟨x, hx, hnot⟩ := hall w
      rcases insertWay_free hw with hn | ⟨y, hy, hyev⟩
      · simp [hx] at hn
      · obtain rfl : x = y := by simpa [hx] using hy
        exact absurd ((hiff x).2 hyev) hnot
  · rw [insertWay_full hfull]
    refine evictWay_eq hx ((hiff x).1 hxev) fun v y hy hyev => ?_
    have := hbest v y hy ((hiff y).2 hyev)
    simpa only [hageOf] using this

/-- An insert of an absent key keeps the lookup of every other named key, and the key is found with its entry. -/
theorem lookup_insertRider {e : RiderEntry} {t : State} (h : s.insertRider e = some t) (habsent : s.lookup e.key = none) :
    t.lookup e.key = some e ∧ ∀ k, s.named k = true → (s.lookup k).isSome = true → t.lookup k = s.lookup k := by
  obtain ⟨hk, w, hw, rfl⟩ := insertRider_eq_some h
  refine ⟨lookup_setWay_new hk habsent w, fun k hnamed hsome => ?_⟩
  have hne : e.key ≠ k := by
    rintro rfl
    simp [habsent] at hsome
  refine lookup_setWay_other ?_ (by simpa [holdsKey] using hne)
  rcases insertWay_free hw with hn | ⟨x, hx, hev⟩
  · simp [hn, holdsKey]
  · have hunnamed := named_eq_false_iff.2 ((evictable_iff s x).1 hev).2.1
    rw [hx, Bool.eq_false_iff, Ne, holdsKey_some]
    rintro rfl
    simp [hnamed] at hunnamed

theorem insertRider_keeps {α : Type} (g : State → α) (hg : ∀ s v, g { s with riders := v } = g s) {e : RiderEntry} {t : State}
    (h : s.insertRider e = some t) : g t = g s := by
  obtain ⟨-, w, -, rfl⟩ := insertRider_eq_some h
  exact hg s _

/-! ## CREDIT, CLOSE_RIDE (R30, R31) -/

@[simp] theorem wordAt_wordBytes (w : Word) (rest : List Byte) : wordAt (wordBytes w ++ rest) 0 = w := by
  simpa using wordAt_append [] rest w 0 rfl

theorem byteAt_wordBytes_append (w : Word) (b : Byte) : byteAt (wordBytes w ++ [b]) 4 = b := by simp [wordBytes, byteAt]

theorem acceptFrame_credit (s : State) (k : Key) (amount : Byte) :
    s.acceptFrame .credit (wordBytes k ++ [amount]) = s.heard.modRider k fun e => e.addAllowance amount.toNat := by
  have hfits : fits .credit (wordBytes k ++ [amount]) = true := by simp [fits, fixedLength]
  simp [State.acceptFrame, hfits, State.handOver, takeCredit, byteAt_wordBytes_append]

theorem acceptFrame_closeRide (s : State) (k : Key) : s.acceptFrame .closeRide (wordBytes k) = takeCloseRide (wordBytes k) s.heard := by
  have hfits : fits .closeRide (wordBytes k) = true := by simp [fits, fixedLength]
  simp [State.acceptFrame, hfits, State.handOver]

theorem takeCloseRide_absent (h : s.lookup k = none) : takeCloseRide (wordBytes k) s = s := by
  have hk : wordAt (wordBytes k) 0 = k := by simpa using wordAt_wordBytes k []
  simp [takeCloseRide, hk, h]

theorem takeCloseRide_some {e : RiderEntry} (h : s.lookup k = some e) : takeCloseRide (wordBytes k) s =
    if 0 < e.bikesOut then s.modRider k RiderEntry.bikeIn else { s with closeMismatch := min 255 (s.closeMismatch + 1) } := by
  have hk : wordAt (wordBytes k) 0 = k := by simpa using wordAt_wordBytes k []
  simp [takeCloseRide, hk, h]

/-- Settles O12: a CREDIT is one rider's entry changed; a CLOSE_RIDE goes by what the lookup finds. -/
theorem creditAndCloseRide : Obligations.CreditAndCloseRide := by
  refine ⟨fun code k amount s h => ⟨_, ?_, modRider_eq s.heard k fun e => e.addAllowance amount.toNat, fun k' => ?_⟩,
    fun code k s h => ⟨takeCloseRide (wordBytes k) s.heard, ?_, fun hn => ?_, fun e he h0 => ?_, fun e he hpos => ?_⟩⟩
  · rw [exec_of_frameOf (i := .credit code _) rfl, receive_accepted h .credit (by simp), acceptFrame_credit]
  · rw [lookup_modRider s.heard k (fun e => e.addAllowance amount.toNat) fun _ => rfl, heard_lookup, heard_lookup]
    rfl
  · rw [exec_of_frameOf (i := .closeRide code _) rfl, receive_accepted h .closeRide (by simp), acceptFrame_closeRide]
  · exact takeCloseRide_absent (by simpa using hn)
  · rw [takeCloseRide_some (e := e) (by simpa using he), if_neg (by omega), heard_closeMismatch]
  · rw [takeCloseRide_some (e := e) (by simpa using he), if_pos hpos]
    refine ⟨modRider_eq _ _ _, fun k' => ?_⟩
    rw [lookup_modRider s.heard k RiderEntry.bikeIn fun _ => rfl, heard_lookup, heard_lookup, he]
    rfl

/-! ## The refund of a removal, the drop-pending test (R23, R84) -/

theorem refund_key (e : RiderEntry) (counted charged : Bool) : (e.refund counted charged).key = e.key := by
  cases counted <;> cases charged <;> rfl

/-- The refund of R84, field by field. -/
theorem refund_eq (e : RiderEntry) (counted charged : Bool) : e.refund counted charged =
    { e with bikesOut := if counted then e.bikesOut - 1 else e.bikesOut
             allowance := if charged then min 63 (e.allowance + 1) else e.allowance } := by
  cases counted <;> cases charged <;> rfl

theorem refundFor_some {r : Record} (h : r.rider = some k) (s : State) :
    s.refundFor r = s.modRider k fun e => e.refund r.counted r.charged := by simp [State.refundFor, h]

/-- The drop-pending test of an entry that is found. -/
theorem dropTest_found {e : RiderEntry} (h : s.lookup k = some e) :
    s.dropTest (some k) = if e.dropPending && !s.named k then s.dropRider k else s := by simp [State.dropTest, h]

theorem dropTest_absent (h : s.lookup k = none) : s.dropTest (some k) = s := by simp [State.dropTest, h]

/-- Settles O31: the refund is one rider's entry changed, the drop-pending test at most one removal. -/
theorem refundAndDropTest : Obligations.RefundAndDropTest := by
  refine fun s r => ⟨fun hn => by simp [State.refundFor, State.dropTest, hn], fun k hk => ⟨?_, ?_, ?_⟩⟩
  · rw [refundFor_some hk]
    refine ⟨modRider_eq _ _ _, fun k' => ?_⟩
    rw [lookup_modRider _ _ _ fun e => refund_key e _ _]
    simp only [refund_eq]
  · intro e he hdrop hunnamed hs
    have htest : s.dropTest (some k) = s.dropRider k := by
      simp [dropTest_found he, hdrop, named_eq_false_iff.2 hunnamed]
    rw [htest]
    exact ⟨dropRider_eq s k, lookup_dropRider hs k⟩
  · intro hno
    cases he : s.lookup k with
    | none => exact dropTest_absent he
    | some e =>
      rw [dropTest_found he]
      rcases hno with hkeep | hnamed
      · simp [hkeep e he]
      · simp [named_iff.2 hnamed]

end Sys2Proof.Machine
end

section
/-! Batches and the change of epoch: the record a command takes, PUT and DROP at the Rider Table, ADD and REMOVE at the Block List,
the purge, the release of a waiting load (R21, R22, R35 to R39, R125, R156). -/

namespace Sys2Proof.Machine

variable {s : State} {b : Batch} {r : BatchRecord}

/-! ## The next record of a batch (R162) -/

/-- A record whose kind is the command's is applied. -/
theorem takeRecord_eq (h : NextRecord s b r) {k : RecordKind} (hk : recordKindOf r.kind = some k) :
    whenRunning s (takeRecord k) = .next (s.applyNext b r) := by
  obtain ⟨hlow, hb, hr⟩ := h
  simp [whenRunning, hlow, takeRecord, hb, hr, takesRecord, hk]

theorem applyNext_ok {t : State} (h : s.applyRecord b.kind r = .ok t) : s.applyNext b r = t.advanceBatch b := by
  simp [State.applyNext, h]

theorem applyNext_error {stop : StopReason} (h : s.applyRecord b.kind r = .error stop) :
    s.applyNext b r = batchEnds s b b.applied stop r.key := by simp [State.applyNext, h, State.endBatch, batchEnds]

/-! ## PUT and DROP (R21, R22) -/

theorem exec_put (s : State) : exec .put s = whenRunning s (takeRecord .put) := rfl
theorem exec_drop (s : State) : exec .drop s = whenRunning s (takeRecord .drop) := rfl

theorem recordKindOf_put (h : r.kind = 1) : recordKindOf r.kind = some .put := by rw [h]; rfl
theorem recordKindOf_drop (h : r.kind = 2) : recordKindOf r.kind = some .drop := by rw [h]; rfl
theorem recordKindOf_add (h : r.kind = 3) : recordKindOf r.kind = some .add := by rw [h]; rfl
theorem recordKindOf_remove (h : r.kind = 4) : recordKindOf r.kind = some .remove := by rw [h]; rfl

theorem applyRecord_put (h : r.kind = 1) (hk : r.key ≠ 0) : s.applyRecord .rider r = s.putRider r := by
  unfold State.applyRecord
  rw [if_neg hk, recordKindOf_put h]

theorem applyRecord_drop (h : r.kind = 2) (hk : r.key ≠ 0) : s.applyRecord .rider r = s.dropRecord r := by
  unfold State.applyRecord
  rw [if_neg hk, recordKindOf_drop h]

/-- The class of a PUT is its byte, clamped to 3. -/
theorem BatchRecord.cls_eq {cls : Fin 4} (h : cls.val = min 3 r.b5.toNat) : r.cls = cls := by
  unfold BatchRecord.cls
  split
  · exact Fin.ext (by rw [h]; omega)
  · exact Fin.ext (by rw [h, Fin.val_ofNat]; omega)

theorem exec_put_present {e : RiderEntry} (h : NextRecord s b r) (hb : b.kind = .rider) (hr : r.kind = 1) (hk : r.key ≠ 0)
    (he : s.lookup r.key = some e) : exec .put s = .next ((s.modRider r.key fun e => e.putOver r).advanceBatch b) := by
  rw [exec_put, takeRecord_eq h (recordKindOf_put hr), applyNext_ok]
  rw [hb, applyRecord_put hr hk]
  simp [State.putRider, he]

/-- A PUT of an absent key is applied as its insert goes. -/
theorem putRider_inserted {t : State} (he : s.lookup r.key = none) (ht : s.insertRider (r.newEntry s.curEpoch) = some t) :
    s.putRider r = .ok t := by simp [State.putRider, he, ht]

theorem putRider_full (he : s.lookup r.key = none) (hn : s.insertRider (r.newEntry s.curEpoch) = none) :
    s.putRider r = .error .bucketFull := by simp [State.putRider, he, hn]

theorem BatchRecord.newEntry_eq {cls : Fin 4} (h : cls.val = min 3 r.b5.toNat) (now : Half) : r.newEntry now =
    { key := r.key, cls := cls, allowance := min 63 r.b6.toNat, bikesOut := 0, review := r.b7.getLsbD 0,
      pinned := r.b7.getLsbD 1, provisional := false, dropPending := false, top := none, used := [], lastUse := now } := by
  rw [BatchRecord.newEntry, BatchRecord.cls_eq h]

theorem exec_drop_eq (h : NextRecord s b r) (hb : b.kind = .rider) (hr : r.kind = 2) (hk : r.key ≠ 0) : exec .drop s =
    .next ((if s.named r.key then s.modRider r.key RiderEntry.markDrop else s.dropRider r.key).advanceBatch b) := by
  rw [exec_drop, takeRecord_eq h (recordKindOf_drop hr), applyNext_ok]
  rw [hb, applyRecord_drop hr hk, State.dropRecord]

/-- Settles O21: a PUT by what the lookup finds, a DROP by whether a record names the key. -/
theorem putAndDropAtTheRiderTable : Obligations.PutAndDropAtTheRiderTable := by
  refine ⟨fun s b r h hb hr hk cls hcls => ⟨fun e he => ?_, fun he e heq => ⟨fun t ht => ?_, fun hn => ?_⟩⟩,
    fun s b r h hb hr hk hs => ?_⟩
  · refine ⟨_, exec_put_present h hb hr hk he, modRider_eq _ _ _, fun k => ?_⟩
    rw [lookup_modRider s r.key (fun e => e.putOver r) fun _ => rfl, he, ← BatchRecord.cls_eq hcls]
    rfl
  · rw [exec_put, takeRecord_eq h (recordKindOf_put hr), applyNext_ok]
    rw [hb, applyRecord_put hr hk, putRider_inserted he]
    rw [BatchRecord.newEntry_eq hcls, ← ht, heq]
    rfl
  · rw [exec_put, takeRecord_eq h (recordKindOf_put hr), applyNext_error]
    rw [hb, applyRecord_put hr hk, putRider_full he]
    rw [BatchRecord.newEntry_eq hcls, ← hn, heq]
    rfl
  · refine ⟨_, exec_drop_eq h hb hr hk, ?_⟩
    cases hn : s.named r.key with
    | true =>
      have hlook := lookup_modRider s r.key RiderEntry.markDrop fun _ => rfl
      refine ⟨modRider_eq _ _ _, fun k hne => (hlook k).trans (if_neg hne), fun hall => ?_, fun _ => (hlook _).trans (if_pos rfl)⟩
      simp [named_eq_false_iff.2 hall] at hn
    | false =>
      refine ⟨dropRider_eq _ _, fun k hne => lookup_dropRider_ne s hne, fun _ => lookup_dropRider_self hs, fun hex => ?_⟩
      simp [named_iff.2 hex] at hn

/-! ## The Block List (R35, R37, R38) -/

/-- The keys listed after an ADD. -/
theorem key_of_mem_listKey {k : Key} {x : Half} {e : BlockEntry} : ∀ {l : List BlockEntry}, e ∈ listKey k x l →
    e = { key := k, expiry := x } ∨ e ∈ l
  | [], h => .inl (by simpa [listKey] using h)
  | a :: rest, h => by
    unfold listKey at h
    split at h
    · next hk =>
      subst hk
      rcases List.mem_cons.1 h with rfl | h
      · exact .inl rfl
      · exact .inr (List.mem_cons_of_mem _ h)
    · split at h
      · exact List.mem_cons.1 h
      · rcases List.mem_cons.1 h with rfl | h
        · exact .inr List.mem_cons_self
        · exact (key_of_mem_listKey h).imp_right (List.mem_cons_of_mem _)

/-- An ADD keeps the list in strictly ascending key order. -/
theorem listKey_pairwise {k : Key} {x : Half} : ∀ {l : List BlockEntry}, (l.map BlockEntry.key).Pairwise (· < ·) →
    ((listKey k x l).map BlockEntry.key).Pairwise (· < ·)
  | [], _ => by simp [listKey]
  | a :: rest, h => by
    obtain ⟨ha, hrest⟩ := List.pairwise_cons.1 h
    unfold listKey
    split
    · exact List.pairwise_cons.2 ⟨ha, hrest⟩
    · next hne =>
      split
      · next hlt =>
        refine List.pairwise_cons.2 ⟨fun b hb => ?_, h⟩
        rcases List.mem_cons.1 hb with rfl | hb
        · exact hlt
        · exact BitVec.lt_trans hlt (ha b hb)
      · next hge =>
        refine List.pairwise_cons.2 ⟨fun b hb => ?_, listKey_pairwise hrest⟩
        obtain ⟨e, he, rfl⟩ := List.mem_map.1 hb
        rcases key_of_mem_listKey he with rfl | he
        · exact Nat.lt_of_le_of_ne (BitVec.not_lt.1 hge) fun e => hne (BitVec.eq_of_toNat_eq e)
        · exact ha _ (List.mem_map_of_mem he)

/-- In a list in key order an ADD lists its key with its expiry and keeps every other entry. -/
theorem mem_listKey {k : Key} {x : Half} {e : BlockEntry} : ∀ {l : List BlockEntry},
    (l.map BlockEntry.key).Pairwise (· < ·) → (e ∈ listKey k x l ↔ e = { key := k, expiry := x } ∨ (e ∈ l ∧ e.key ≠ k))
  | [], _ => by simp [listKey]
  | a :: rest, h => by
    obtain ⟨ha, hrest⟩ := List.pairwise_cons.1 h
    have hafter : ∀ c ∈ rest, a.key < c.key := fun c hc => ha _ (List.mem_map_of_mem hc)
    unfold listKey
    split
    · next hk =>
      subst hk
      have hne : ∀ c ∈ rest, c.key ≠ a.key := fun c hc => (BitVec.ne_of_lt (hafter c hc)).symm
      simp only [List.mem_cons]
      constructor
      · rintro (rfl | hc)
        · exact .inl rfl
        · exact .inr ⟨.inr hc, hne e hc⟩
      · rintro (rfl | ⟨rfl | hc, hek⟩)
        · exact .inl rfl
        · exact absurd rfl hek
        · exact .inr hc
    · next hne =>
      split
      · next hlt =>
        have hother : ∀ c ∈ a :: rest, c.key ≠ k := by
          rintro c hc rfl
          rcases List.mem_cons.1 hc with rfl | hc
          · exact hne rfl
          · exact BitVec.lt_asymm hlt (hafter c hc)
        rw [List.mem_cons]
        exact ⟨Or.imp_right fun hc => ⟨hc, hother e hc⟩, Or.imp_right And.left⟩
      · rw [List.mem_cons, mem_listKey hrest, List.mem_cons]
        constructor
        · rintro (rfl | rfl | ⟨hc, hek⟩)
          · exact .inr ⟨.inl rfl, hne⟩
          · exact .inl rfl
          · exact .inr ⟨.inr hc, hek⟩
        · rintro (rfl | ⟨rfl | hc, hek⟩)
          · exact .inr (.inl rfl)
          · exact .inl rfl
          · exact .inr (.inr ⟨hc, hek⟩)

theorem listKey_length_le (k : Key) (x : Half) : ∀ l : List BlockEntry, (listKey k x l).length ≤ l.length + 1
  | [] => by simp [listKey]
  | a :: rest => by
    unfold listKey
    split
    · simp
    · split
      · simp
      · simpa using listKey_length_le k x rest

/-- In a list in key order an ADD of a listed key takes the place of its entry. -/
theorem listKey_length_of_mem {k : Key} (x : Half) : ∀ {l : List BlockEntry}, (l.map BlockEntry.key).Pairwise (· < ·) →
    (∃ e ∈ l, e.key = k) → (listKey k x l).length = l.length
  | [], _, h => by simp at h
  | a :: rest, h, hk => by
    obtain ⟨ha, hrest⟩ := List.pairwise_cons.1 h
    unfold listKey
    split
    · simp
    · next hne =>
      obtain ⟨e, he, rfl⟩ := hk
      have hmem : e ∈ rest := (List.mem_cons.1 he).resolve_left fun h => hne (by rw [h])
      have hnot : ¬ e.key < a.key := BitVec.lt_asymm (ha _ (List.mem_map_of_mem hmem))
      rw [if_neg hnot]
      simpa using listKey_length_of_mem x hrest ⟨e, hmem, rfl⟩

theorem isBlocked_eq_false_iff {k : Key} : s.isBlocked k = false ↔ ∀ e ∈ s.blocks, e.key ≠ k := by simp [State.isBlocked]

theorem isBlocked_iff {k : Key} : s.isBlocked k = true ↔ ∃ e ∈ s.blocks, e.key = k := by simp [State.isBlocked]

/-- An ADD with room, or of a listed key, keeps the Block List in order. -/
theorem blockListOrdered_listKey {k : Key} (h : BlockListOrdered s) (hk : k ≠ 0) (x : Half)
    (hroom : s.blocks.length < 512 ∨ ∃ e ∈ s.blocks, e.key = k) : BlockListOrdered { s with blocks := listKey k x s.blocks } := by
  obtain ⟨hp, hlen, hne⟩ := h
  refine ⟨listKey_pairwise hp, ?_, fun e he => ?_⟩
  · rcases hroom with hlt | hmem
    · exact (listKey_length_le k x s.blocks).trans hlt
    · exact (listKey_length_of_mem x hp hmem).le.trans hlen
  · rcases key_of_mem_listKey he with rfl | he
    · exact hk
    · exact hne e he

/-- A Block List with entries taken out stays in order. -/
theorem blockListOrdered_filter (h : BlockListOrdered s) (p : BlockEntry → Bool) :
    BlockListOrdered { s with blocks := s.blocks.filter p } := by
  obtain ⟨hp, hlen, hne⟩ := h
  exact ⟨hp.sublist (List.filter_sublist.map _), (List.length_filter_le _ _).trans hlen,
    fun e he => hne e (List.mem_filter.1 he).1⟩

theorem exec_add (s : State) : exec .add s = whenRunning s (takeRecord .add) := rfl
theorem exec_remove (s : State) : exec .remove s = whenRunning s (takeRecord .remove) := rfl

theorem applyRecord_add (h : r.kind = 3) (hk : r.key ≠ 0) : s.applyRecord .block r = s.addRecordKey r := by
  unfold State.applyRecord
  rw [if_neg hk, recordKindOf_add h]

theorem applyRecord_remove (h : r.kind = 4) (hk : r.key ≠ 0) : s.applyRecord .block r = s.removeKey r := by
  unfold State.applyRecord
  rw [if_neg hk, recordKindOf_remove h]

/-- An ADD is refused exactly when 512 keys are listed and its key is not among them. -/
theorem addRecordKey_full (hlen : 512 ≤ s.blocks.length) (hnot : ∀ e ∈ s.blocks, e.key ≠ r.key) :
    s.addRecordKey r = .error .listFull := by
  rw [State.addRecordKey, if_pos ⟨isBlocked_eq_false_iff.2 hnot, hlen⟩]

theorem addRecordKey_room (h : s.blocks.length < 512 ∨ ∃ e ∈ s.blocks, e.key = r.key) :
    s.addRecordKey r = .ok { s with blocks := listKey r.key r.expiry s.blocks } := by
  rw [State.addRecordKey, if_neg]
  rintro ⟨hfree, hlen⟩
  rcases h with hlt | hmem
  · omega
  · simp [isBlocked_iff.2 hmem] at hfree

/-- Settles O23: an ADD by whether there is room or the key is listed, a REMOVE outright. -/
theorem addAndRemoveKeepTheBlockList : Obligations.AddAndRemoveKeepTheBlockList := by
  refine fun s b r h hb hk => ⟨fun hr => ⟨fun hlen hnot => ?_, fun hroom hord =>
    ⟨_, ?_, rfl, blockListOrdered_listKey hord hk r.expiry hroom, fun e => mem_listKey hord.1⟩⟩, fun hr => ?_⟩
  · rw [exec_add, takeRecord_eq h (recordKindOf_add hr), applyNext_error]
    rw [hb, applyRecord_add hr hk, addRecordKey_full hlen hnot]
  · rw [exec_add, takeRecord_eq h (recordKindOf_add hr), applyNext_ok]
    rw [hb, applyRecord_add hr hk, addRecordKey_room hroom]
  · rw [exec_remove, takeRecord_eq h (recordKindOf_remove hr), applyNext_ok]
    rw [hb, applyRecord_remove hr hk, State.removeKey]

/-! ## Commits at the blocks they do not reach (R147, R159) -/

section
variable {α : Type} (g : State → α) (ho : ∀ s f, g (State.offer s f) = g s) (hm : ∀ s m x, g (State.setStr s m x) = g s)
include ho hm

theorem passAfterCommit_keeps (s : State) (m : StringId) : g (s.passAfterCommit m) = g s := by
  unfold State.passAfterCommit
  split
  · split
    · exact (ho _ _).trans (hm _ _ _)
    · rfl
  · rfl

theorem commitStrings_keeps (new old : State) : g (new.commitStrings old) = g new := by
  simp only [State.commitStrings, passAfterCommit_keeps g ho hm, hm]

end

/-- A commit leaves the Block List. -/
theorem commitRows_blocks (s : State) (l : Loader) : (s.commitRows l).blocks = s.blocks := by
  have hstrings := commitStrings_keeps State.blocks offer_blocks setStr_blocks
  unfold State.commitRows
  split
  · exact hstrings _ _
  · exact hstrings _ _
  · rfl
  · rfl
  · rfl

theorem commitLoad_blocks (s : State) (l : Loader) : (s.commitLoad l).blocks = s.blocks := by
  unfold State.commitLoad State.endLoad
  split
  · simp
  · simp [commitRows_blocks]

theorem releaseLoad_blocks (s : State) : s.releaseLoad.blocks = s.blocks := by
  unfold State.releaseLoad
  split
  · exact commitLoad_blocks _ _
  · rfl

/-- Settles O26: the purge, then the waiting load checked again. -/
theorem changeOfEpoch : Obligations.ChangeOfEpoch := by
  intro s e p hp idle hidle
  have hchange : epochChanged s e = p.releaseLoad := by rw [hp, epochChanged]
  have hloader : p.loader = s.loader := by rw [hp]
  have hblocks : (epochChanged s e).blocks = s.blocks.filter fun b => decide (32768 ≤ (e - b.expiry).toNat) := by
    rw [hchange, releaseLoad_blocks, hp]
  have hend : ∀ (q : State) (o : LoadOutcome), q.endLoad s.loader o =
      { q with loader := idle }.offer (heldReply s o s.loader.completed) := fun q o => by rw [hidle]; rfl
  refine ⟨fun hnot => ?_, fun hwait => ⟨fun o ho => ?_, fun hnone => ?_⟩, ?_, fun b => ?_⟩
  · rw [hchange, State.releaseLoad, hloader, if_neg hnot]
  · rw [hchange, State.releaseLoad, hloader, if_pos hwait, State.commitLoad, ho]
    exact hend p o
  · rw [hchange, State.releaseLoad, hloader, if_pos hwait, State.commitLoad, hnone]
    exact hend (p.commitRows s.loader) _
  · rw [hblocks]
    exact List.filter_sublist
  · rw [hblocks, List.mem_filter, decide_eq_true_iff]
    exact and_congr_right fun _ => by omega

end Sys2Proof.Machine
end

section
/-! What a step can do, said once: every step is made of the moves listed here. `S` stands for an assumption under which the Release
List is known to be sound: with `S` false the moves hold of every state, with `S` true they tell where the records stand. -/

namespace Sys2Proof.Machine

/-! ## Changes of a dock context -/

/-- The counts of a dock context are in their ranges (R49, R50, R79, R137). -/
def CtxCounts (c : DockContext) : Prop := c.tries ≤ 3 ∧ c.missCount ≤ 8 ∧ c.crcErrors ≤ 255 ∧ c.unreported ≤ 65535

/-- A change of a dock context that leaves its state and the record that names it. -/
structure Stays (c c' : DockContext) : Prop where
  state : c'.state = c.state
  record : c'.record = c.record
  counts : CtxCounts c → CtxCounts c'

/-- A change of a dock context to a polled state in which no record names it. -/
structure Frees (c c' : DockContext) : Prop where
  free : ¬Held c'
  polled : c'.state ≠ .unpolled
  record : c'.record = none
  counts : CtxCounts c → CtxCounts c'

/-- A dock context named by a record of that state and number. -/
def NamedBy (c : DockContext) (st : RecState) (n : Half) : Prop := c.state = stateOfRecord st ∧ c.record = some n

/-- A dock that a record may come to name, or that may take another state: no record names it, and it is polled. -/
def Free (c : DockContext) : Prop := ¬Held c ∧ c.state ≠ .unpolled

/-! ## Changes of a String Master -/

/-- The soundness of a String Master, by whether its string has no member (R130). -/
def MasterSound (noMember : Prop) (x : StringMaster) : Prop :=
  (x.line = .polling ↔ x.exchange.isSome = true) ∧
  (x.line = .idle → noMember ∧ x.position = none ∧ x.cycle = 0) ∧
  (x.line = .idle ∨ x.line = .clearing → x.driverEnable = false) ∧
  (x.line ≠ .recovering → x.pulses = 0 ∧ x.recoveryTimer = none) ∧
  (x.recoveryTimer.isSome = true → x.pulses = 0 ∧ x.driverEnable = false)

theorem stringSound_iff (s : State) (m : StringId) : StringSound s m ↔ MasterSound (s.members m = []) (s.str m) := Iff.rfl

/-! ## Moves -/

/-- Two states that differ at most in the fields no invariant but the bounds of the counts speaks of. -/
structure Plain (s t : State) : Prop where
  deframer : t.deframer = s.deframer
  condition : t.condition = s.condition
  presence : t.presence = s.presence
  epochValid : t.epochValid = s.epochValid
  epoch : t.epoch = s.epoch
  epochTimer : t.epochTimer = s.epochTimer
  loader : t.loader = s.loader
  batch : t.batch = s.batch
  stringA : t.stringA = s.stringA
  stringB : t.stringB = s.stringB
  params : t.params = s.params
  descs : t.descs = s.descs
  ctxs : t.ctxs = s.ctxs
  riders : t.riders = s.riders
  blocks : t.blocks = s.blocks
  records : t.records = s.records

/-- A DOCK or PARAM commit at the Dock Contexts and at both String Masters' lines (R62, R147). -/
def State.committed (s : State) (descs : Vector DockDesc 48) (p : Params) : State :=
  let new := s.commitDocks descs p
  (new.setStr .a (new.stringA.afterCommit .a s new)).setStr .b (new.stringB.afterCommit .b s new)

/-- The moves of which every step is made. -/
inductive Moves (S : Prop) : State → State → Prop
  | refl (s : State) : Moves S s s
  | trans {s t u : State} : Moves S s t → Moves S t u → Moves S s u
  /-- fields that only the bounds of the counts speak of -/
  | plain {s t : State} (h : Plain s t) (hcounts : CountsBounded s → CountsBounded t) : Moves S s t
  /-- a dock context but for its state and record -/
  | ctx (s : State) (d : DockNo) (f : DockContext → DockContext) (h : Stays (s.ctx d) (f (s.ctx d))) : Moves S s (s.modCtx d f)
  | ctxs (s : State) (f : DockNo → DockContext → DockContext) (h : ∀ d, Stays (s.ctx d) (f d (s.ctx d))) : Moves S s (s.mapCtxs f)
  /-- the state of a dock that no record names -/
  | free (s : State) (d : DockNo) (f : DockContext → DockContext) (h : S → Free (s.ctx d) ∧ Frees (s.ctx d) (f (s.ctx d)))
      (hcounts : CtxCounts (s.ctx d) → CtxCounts (f (s.ctx d))) : Moves S s (s.modCtx d f)
  /-- a record removed with its dock moved -/
  | remove (s : State) (r : Record) (f : DockContext → DockContext) (hr : S → r ∈ s.records)
      (h : Frees (s.ctx r.dock) (f (s.ctx r.dock))) : Moves S s ((s.eraseRecord r.number).modCtx r.dock f)
  /-- a record created with its dock -/
  | add (s : State) (r : Record) (f : DockContext → DockContext) (hnumber : r.number = s.newNumber)
      (hroom : s.records.length < 16) (hd : S → Free (s.ctx r.dock)) (hsound : RecordSound r)
      (hcharged : r.charged = true → r.counted = true)
      (hcounted : r.counted = true → ∃ k, r.rider = some k ∧ (s.lookup k).isSome = true)
      (honline : r.state = .referred → s.condition = .online) (h : NamedBy (f (s.ctx r.dock)) r.state r.number)
      (hcounts : CtxCounts (s.ctx r.dock) → CtxCounts (f (s.ctx r.dock))) : Moves S s ((s.addRecord r).modCtx r.dock f)
  /-- a record brought to OPENING or OPEN with its dock -/
  | advance (s : State) (r : Record) (g : Record → Record) (f : DockContext → DockContext) (hr : S → r ∈ s.records)
      (hnumber : ∀ x, (g x).number = x.number) (hdock : ∀ x, (g x).dock = x.dock) (hstate : ∀ x, (g x).state ≠ .referred)
      (hsound : S → RecordSound (g r)) (hcharged : S → (g r).charged = true → (g r).counted = true)
      (hcounted : S → (g r).counted = true → ∃ k, (g r).rider = some k ∧ (s.lookup k).isSome = true)
      (h : S → NamedBy (f (s.ctx r.dock)) (g r).state r.number)
      (hcounts : CtxCounts (s.ctx r.dock) → CtxCounts (f (s.ctx r.dock))) :
      Moves S s ((s.modRecord r.number g).modCtx r.dock f)
  | rider (s : State) (k : Key) (f : RiderEntry → RiderEntry) (hkey : ∀ e, (f e).key = e.key)
      (h : ∀ e, s.lookup k = some e → EntrySound e → EntrySound (f e)) : Moves S s (s.modRider k f)
  | drop (s : State) (k : Key) (h : s.named k = false) : Moves S s (s.dropRider k)
  | insert {s t : State} (e : RiderEntry) (h : s.insertRider e = some t) (habsent : s.lookup e.key = none)
      (he : e.key ≠ 0 → EntrySound e) : Moves S s t
  | str (s : State) (m : StringId) (x : StringMaster) (hstuck : (s.str m).stuck ≤ 255 → x.stuck ≤ 255)
      (h : MasterSound (s.members m = []) (s.str m) → MasterSound (s.members m = []) x) : Moves S s (s.setStr m x)
  | loads (s : State) (l : Loader) (b : Option Batch) (h : LoadsSound s → LoadsSound { s with loader := l, batch := b })
      (hcompleted : s.loader.completed ≤ 65535 → l.completed ≤ 65535) : Moves S s { s with loader := l, batch := b }
  | deframer (s : State) (d : Deframer) (h : DeframerSound s → DeframerSound { s with deframer := d }) :
      Moves S s { s with deframer := d }
  | blocks (s : State) (bs : List BlockEntry) (h : BlockListOrdered s → BlockListOrdered { s with blocks := bs }) :
      Moves S s { s with blocks := bs }
  | commit (s : State) (descs : Vector DockDesc 48) (p : Params) (h : s.namedKept descs p = true) : Moves S s (s.committed descs p)
  | tick (s : State) : Moves S s (takeTick s)
  | epoch (s : State) (e : Half) (n : Nat) : Moves S s { s with epochValid := true, epoch := e, epochTimer := some n }
  | online (s : State) (n : Nat) : Moves S s { s with condition := .online, presence := some n }
  /-- islanding with the settlement of every record it makes -/
  | islanded {s t : State} (h : Moves S s.goIslanded t) (hr : ∀ r ∈ t.records, r.state ≠ .referred) : Moves S s t
  | resetDocks (s : State) (named : List DockNo) (h : S → s.records = []) : Moves S s (s.resetDocks named)
  | blank {s t : State} (h : AtPowerOn t) (hu : t.uplink.length ≤ 64) (hp : ∀ m, (t.str m).pulses = 0) : Moves S s t

variable {S : Prop} {s t : State}

/-! ## The Block List, the deframer, the loads -/

theorem blockListOrdered_congr (h : t.blocks = s.blocks) : BlockListOrdered s → BlockListOrdered t := by
  unfold BlockListOrdered
  rw [h]
  exact id

theorem Moves.blockListOrdered (h : Moves S s t) : BlockListOrdered s → BlockListOrdered t := by
  induction h with
  | refl => exact id
  | trans _ _ h1 h2 => exact h2 ∘ h1
  | blocks _ _ h => exact h
  | islanded _ _ ih => exact ih
  | blank h => exact fun _ => h.blockListOrdered
  | plain h => exact blockListOrdered_congr h.blocks
  | insert _ h => exact blockListOrdered_congr (insertRider_keeps State.blocks (fun _ _ => rfl) h)
  | _ => exact blockListOrdered_congr (by simp [State.committed, State.commitDocks, State.resetDocks, takeTick])

theorem deframerSound_congr (h : t.deframer = s.deframer) : DeframerSound s → DeframerSound t := by
  unfold DeframerSound
  rw [h]
  exact id

theorem Moves.deframerSound (h : Moves S s t) : DeframerSound s → DeframerSound t := by
  induction h with
  | refl => exact id
  | trans _ _ h1 h2 => exact h2 ∘ h1
  | deframer _ _ h => exact h
  | islanded _ _ ih => exact ih
  | blank h => exact fun _ => h.deframerSound
  | plain h => exact deframerSound_congr h.deframer
  | insert _ h => exact deframerSound_congr (insertRider_keeps State.deframer (fun _ _ => rfl) h)
  | _ => exact deframerSound_congr (by simp [State.committed, State.commitDocks, State.resetDocks, takeTick])

theorem loadsSound_congr (hl : t.loader = s.loader) (hb : t.batch = s.batch) : LoadsSound s → LoadsSound t := by
  unfold LoadsSound
  rw [hl, hb]
  exact id

theorem Moves.loadsSound (h : Moves S s t) : LoadsSound s → LoadsSound t := by
  induction h with
  | refl => exact id
  | trans _ _ h1 h2 => exact h2 ∘ h1
  | loads _ _ _ h => exact h
  | islanded _ _ ih => exact ih
  | blank h => exact fun _ => h.loadsSound
  | plain h => exact loadsSound_congr h.loader h.batch
  | insert _ h =>
    exact loadsSound_congr (insertRider_keeps State.loader (fun _ _ => rfl) h) (insertRider_keeps State.batch (fun _ _ => rfl) h)
  | _ =>
    exact loadsSound_congr (by simp [State.committed, State.commitDocks, State.resetDocks, takeTick])
      (by simp [State.committed, State.commitDocks, State.resetDocks, takeTick])

/-! ## The String Masters -/

theorem members_congr (hd : t.descs = s.descs) (hp : t.params = s.params) (m : StringId) : t.members m = s.members m := by
  simp only [State.members]
  congr 1
  funext d
  simp only [State.member, polled_congr hd hp, hp]

theorem stringsSound_congr (ha : t.stringA = s.stringA) (hb : t.stringB = s.stringB) (hd : t.descs = s.descs)
    (hp : t.params = s.params) (h : StringsSound s) : StringsSound t := fun m => by
  rw [stringSound_iff, members_congr hd hp, str_congr ha hb]
  exact h m

theorem stringsSound_setStr {m : StringId} {x : StringMaster}
    (h : MasterSound (s.members m = []) (s.str m) → MasterSound (s.members m = []) x) (hs : StringsSound s) :
    StringsSound (s.setStr m x) := fun n => by
  rw [stringSound_iff, members_congr (setStr_descs s m x) (setStr_params s m x)]
  by_cases hmn : m = n
  · subst hmn
    rw [str_setStr_self]
    exact h (hs m)
  · rw [str_setStr_ne _ _ hmn]
    exact hs n

/-- A String Master after a commit: a string that was IDLE and has members now leaves IDLE. -/
theorem masterSound_afterCommit {x : StringMaster} {m : StringId} {old new : State} {noMember : Prop} (h : MasterSound noMember x) :
    MasterSound (new.members m = []) (x.afterCommit m old new) := by
  obtain ⟨hex, hidle, hdriver, hpulses, htimer⟩ := h
  unfold StringMaster.afterCommit
  dsimp only
  split
  · next hleave =>
    obtain ⟨hline, -⟩ := hleave
    have hnone : x.exchange = none := by simpa [hline] using hex
    exact ⟨by simp [hnone], by simp, fun _ => hdriver (.inl hline), fun _ => hpulses (by simp [hline]), htimer⟩
  · next hstay =>
    refine ⟨by simpa using hex, fun hline => ⟨?_, (hidle hline).2⟩, hdriver, hpulses, htimer⟩
    by_contra hmem
    exact hstay ⟨hline, by simpa using hmem⟩

theorem str_committed (descs : Vector DockDesc 48) (p : Params) (m : StringId) : (s.committed descs p).str m =
    (s.str m).afterCommit m s (s.commitDocks descs p) := by cases m <;> rfl

theorem committed_descs (descs : Vector DockDesc 48) (p : Params) : (s.committed descs p).descs = descs := rfl
theorem committed_params (descs : Vector DockDesc 48) (p : Params) : (s.committed descs p).params = p := rfl

theorem stringsSound_committed {descs : Vector DockDesc 48} {p : Params} (h : StringsSound s) :
    StringsSound (s.committed descs p) := fun m => by
  have hmembers : (s.committed descs p).members m = (s.commitDocks descs p).members m := members_congr rfl rfl m
  rw [stringSound_iff, str_committed, hmembers]
  exact masterSound_afterCommit (h m)

theorem Moves.stringsSound (h : Moves S s t) : StringsSound s → StringsSound t := by
  induction h with
  | refl => exact id
  | trans _ _ h1 h2 => exact h2 ∘ h1
  | str _ _ _ _ h => exact stringsSound_setStr h
  | commit => exact stringsSound_committed
  | islanded _ _ ih => exact ih
  | blank h _ hp => exact fun _ => h.stringsSound hp
  | plain h => exact stringsSound_congr h.stringA h.stringB h.descs h.params
  | insert _ h =>
    exact stringsSound_congr (insertRider_keeps State.stringA (fun _ _ => rfl) h) (insertRider_keeps State.stringB (fun _ _ => rfl) h)
      (insertRider_keeps State.descs (fun _ _ => rfl) h) (insertRider_keeps State.params (fun _ _ => rfl) h)
  | _ =>
    exact stringsSound_congr (by simp [State.resetDocks, takeTick]) (by simp [State.resetDocks, takeTick])
      (by simp [State.resetDocks, takeTick]) (by simp [State.resetDocks, takeTick])

/-! ## The condition and the epoch -/

/-- The presence timer runs exactly while ONLINE, the epoch timer exactly while the epoch is valid, E is 0 while it is not (R106,
R119, R123). -/
def TimersSound (s : State) : Prop :=
  (s.condition = .online ↔ s.presence.isSome = true) ∧ (s.epochValid = true ↔ s.epochTimer.isSome = true) ∧
  (s.epochValid = false → s.epoch = 0)

/-- No record is REFERRED while ISLANDED (R109, R111). -/
def NoneReferred (s : State) : Prop := s.condition = .islanded → ∀ r ∈ s.records, r.state ≠ .referred

theorem conditionSound_iff (s : State) : ConditionSound s ↔ TimersSound s ∧ NoneReferred s := by
  unfold ConditionSound TimersSound NoneReferred
  tauto

theorem timersSound_congr (hc : t.condition = s.condition) (hp : t.presence = s.presence) (hv : t.epochValid = s.epochValid)
    (he : t.epoch = s.epoch) (ht : t.epochTimer = s.epochTimer) : TimersSound s → TimersSound t := by
  unfold TimersSound
  rw [hc, hp, hv, he, ht]
  exact id

theorem timersSound_goIslanded (h : TimersSound s) : TimersSound s.goIslanded := ⟨by simp [State.goIslanded], h.2⟩

theorem timersSound_takeTick (h : TimersSound s) : TimersSound (takeTick s) := by
  simpa [TimersSound, takeTick, tickTimer] using h

theorem Moves.timersSound (h : Moves S s t) : TimersSound s → TimersSound t := by
  induction h with
  | refl => exact id
  | trans _ _ h1 h2 => exact h2 ∘ h1
  | tick => exact timersSound_takeTick
  | epoch => exact fun h => ⟨h.1, by simp, by simp⟩
  | online => exact fun h => ⟨by simp, h.2⟩
  | islanded _ _ ih => exact ih ∘ timersSound_goIslanded
  | blank h => exact fun _ => ((conditionSound_iff _).1 h.conditionSound).1
  | plain h => exact timersSound_congr h.condition h.presence h.epochValid h.epoch h.epochTimer
  | insert _ h =>
    exact timersSound_congr (insertRider_keeps State.condition (fun _ _ => rfl) h) (insertRider_keeps State.presence (fun _ _ => rfl) h)
      (insertRider_keeps State.epochValid (fun _ _ => rfl) h) (insertRider_keeps State.epoch (fun _ _ => rfl) h)
      (insertRider_keeps State.epochTimer (fun _ _ => rfl) h)
  | _ =>
    exact timersSound_congr (by simp [State.committed, State.commitDocks, State.resetDocks])
      (by simp [State.committed, State.commitDocks, State.resetDocks]) (by simp [State.committed, State.commitDocks, State.resetDocks])
      (by simp [State.committed, State.commitDocks, State.resetDocks]) (by simp [State.committed, State.commitDocks, State.resetDocks])

theorem noneReferred_congr (hc : t.condition = s.condition) (hr : t.records = s.records) : NoneReferred s → NoneReferred t := by
  unfold NoneReferred
  rw [hc, hr]
  exact id

theorem Moves.noneReferred (h : Moves S s t) : NoneReferred s → NoneReferred t := by
  induction h with
  | refl => exact id
  | trans _ _ h1 h2 => exact h2 ∘ h1
  | remove => exact fun h hc r hr => h hc r (List.mem_filter.1 hr).1
  | add s r f _ _ _ _ _ _ honline =>
    intro h hc x hx
    rcases List.mem_append.1 hx with hx | hx
    · exact h hc x hx
    · rw [List.mem_singleton.1 hx]
      intro href
      rw [show s.condition = .islanded from hc] at honline
      cases honline href
  | advance s r g f _ _ _ hstate =>
    intro h hc x hx
    obtain ⟨y, hy, rfl⟩ := List.mem_map.1 hx
    split
    · exact hstate y
    · exact h hc y hy
  | tick =>
    intro h hc x hx
    obtain ⟨y, hy, rfl⟩ := List.mem_map.1 hx
    exact h hc y hy
  | online => exact fun _ hc => by cases hc
  | islanded _ hr => exact fun _ _ => hr
  | blank h => exact fun _ => ((conditionSound_iff _).1 h.conditionSound).2
  | plain h => exact noneReferred_congr h.condition h.records
  | insert _ h =>
    exact noneReferred_congr (insertRider_keeps State.condition (fun _ _ => rfl) h) (insertRider_keeps State.records (fun _ _ => rfl) h)
  | _ =>
    exact noneReferred_congr (by simp [State.committed, State.commitDocks, State.resetDocks])
      (by simp [State.committed, State.commitDocks, State.resetDocks])

theorem Moves.conditionSound (h : Moves S s t) (hs : ConditionSound s) : ConditionSound t := by
  rw [conditionSound_iff] at hs ⊢
  exact ⟨h.timersSound hs.1, h.noneReferred hs.2⟩

end Sys2Proof.Machine
end

section
/-! What the moves keep: the ranges of the counts, the soundness of the Rider Table. -/

namespace Sys2Proof.Machine

variable {S : Prop} {s t : State}

/-! ## Counts (R79, R105, R122, R130, R149, R175, R181) -/

/-- The counts that are not a dock's. -/
def ScalarsBounded (s : State) : Prop :=
  s.uplink.length ≤ 64 ∧ s.badFrames ≤ 65535 ∧ s.foreignFrames ≤ 65535 ∧ s.drops ≤ 255 ∧ s.behindMarks ≤ 255 ∧
  s.closeMismatch ≤ 255 ∧ s.islandedTime ≤ 655350 ∧ s.islandedGrants ≤ 65535 ∧ s.loader.completed ≤ 65535 ∧
  ∀ m, (s.str m).stuck ≤ 255

theorem countsBounded_iff (s : State) : CountsBounded s ↔ ScalarsBounded s ∧ ∀ d, CtxCounts (s.ctx d) := by
  simp only [CountsBounded, ScalarsBounded, CtxCounts, and_assoc]

/-- A context after one dock's context was changed. -/
theorem ctx_modCtx (s : State) (d e : DockNo) (f : DockContext → DockContext) :
    (s.modCtx d f).ctx e = if d = e then f (s.ctx d) else s.ctx e := by
  split
  · next h => rw [← h]; exact ctx_modCtx_self s d f
  · next h => exact ctx_modCtx_ne s f h

theorem countsBounded_modCtx {d : DockNo} {f : DockContext → DockContext} (hf : CtxCounts (s.ctx d) → CtxCounts (f (s.ctx d)))
    (h : CountsBounded s) : CountsBounded (s.modCtx d f) := by
  rw [countsBounded_iff] at h ⊢
  refine ⟨h.1, fun e => ?_⟩
  rw [ctx_modCtx]
  split
  · exact hf (h.2 d)
  · exact h.2 e

theorem countsBounded_mapCtxs {f : DockNo → DockContext → DockContext} (hf : ∀ d, CtxCounts (s.ctx d) → CtxCounts (f d (s.ctx d)))
    (h : CountsBounded s) : CountsBounded (s.mapCtxs f) := by
  rw [countsBounded_iff] at h ⊢
  refine ⟨h.1, fun e => ?_⟩
  rw [ctx_mapCtxs]
  exact hf e (h.2 e)

theorem countsBounded_setStr {m : StringId} {x : StringMaster} (hx : (s.str m).stuck ≤ 255 → x.stuck ≤ 255)
    (h : CountsBounded s) : CountsBounded (s.setStr m x) := by
  rw [countsBounded_iff] at h ⊢
  obtain ⟨⟨h1, h2, h3, h4, h5, h6, h7, h8, h9, hstuck⟩, hctx⟩ := h
  simp only [ScalarsBounded, setStr_uplink, setStr_badFrames, setStr_foreignFrames, setStr_drops, setStr_behindMarks,
    setStr_closeMismatch, setStr_islandedTime, setStr_islandedGrants, setStr_loader, setStr_ctx]
  refine ⟨⟨h1, h2, h3, h4, h5, h6, h7, h8, h9, fun n => ?_⟩, hctx⟩
  by_cases hmn : m = n
  · subst hmn
    rw [str_setStr_self]
    exact hx (hstuck m)
  · rw [str_setStr_ne _ _ hmn]
    exact hstuck n

theorem ctxCounts_moveOut {c : DockContext} (h : CtxCounts c) (st : DockState) : CtxCounts (c.moveOut st) := by
  obtain ⟨-, -, hcrc, hunreported⟩ := h
  exact ⟨Nat.zero_le 3, Nat.zero_le 8, hcrc, hunreported⟩

theorem ctxCounts_commitCtx {descs : Vector DockDesc 48} {p : Params} {d : DockNo} {c : DockContext} (h : CtxCounts c) :
    CtxCounts (s.commitCtx descs p d c) := by
  unfold State.commitCtx
  dsimp only
  split
  · exact ctxCounts_moveOut h _
  · split
    · exact ctxCounts_moveOut h _
    · split
      · exact ctxCounts_moveOut h _
      · split <;> exact h

theorem afterCommit_stuck (x : StringMaster) (m : StringId) (old new : State) : (x.afterCommit m old new).stuck = x.stuck := by
  unfold StringMaster.afterCommit
  dsimp only
  split <;> rfl

theorem countsBounded_tables (descs : Vector DockDesc 48) (p : Params) :
    CountsBounded { s with descs := descs, params := p } = CountsBounded s := rfl

theorem countsBounded_committed {descs : Vector DockDesc 48} {p : Params} (h : CountsBounded s) :
    CountsBounded (s.committed descs p) := by
  have hdocks : CountsBounded (s.commitDocks descs p) := by
    rw [State.commitDocks, countsBounded_tables]
    exact countsBounded_mapCtxs (fun d hd => ctxCounts_commitCtx hd) h
  refine countsBounded_setStr (fun hs => ?_) (countsBounded_setStr (fun hs => ?_) hdocks) <;> rw [afterCommit_stuck]
  · rwa [str_setStr_ne _ _ (by decide)] at hs
  · exact hs

theorem countsBounded_takeTick (h : CountsBounded s) : CountsBounded (takeTick s) := by
  rw [countsBounded_iff] at h ⊢
  obtain ⟨⟨h1, h2, h3, h4, h5, h6, h7, h8, h9, hstuck⟩, hctx⟩ := h
  refine ⟨⟨h1, h2, h3, h4, h5, h6, ?_, h8, h9, hstuck⟩, hctx⟩
  show s.tickIslanded ≤ 655350
  unfold State.tickIslanded
  split <;> omega

theorem ctxCounts_runtimeReset {c : DockContext} (h : CtxCounts c) (named : Bool) : CtxCounts (c.runtimeReset named) := by
  obtain ⟨-, -, hcrc, hunreported⟩ := h
  cases named <;> exact ⟨Nat.zero_le 3, Nat.zero_le 8, hcrc, hunreported⟩

theorem countsBounded_resetDocks {named : List DockNo} (h : CountsBounded s) : CountsBounded (s.resetDocks named) :=
  countsBounded_mapCtxs (fun d hd => by
    split
    · exact ctxCounts_runtimeReset hd _
    · exact hd) h

theorem countsBounded_loads {l : Loader} {b : Option Batch} (hl : s.loader.completed ≤ 65535 → l.completed ≤ 65535)
    (h : CountsBounded s) : CountsBounded { s with loader := l, batch := b } := by
  rw [countsBounded_iff] at h ⊢
  obtain ⟨⟨h1, h2, h3, h4, h5, h6, h7, h8, h9, hstuck⟩, hctx⟩ := h
  exact ⟨⟨h1, h2, h3, h4, h5, h6, h7, h8, hl h9, hstuck⟩, hctx⟩

theorem countsBounded_goIslanded (h : CountsBounded s) : CountsBounded s.goIslanded := by
  rw [countsBounded_iff] at h ⊢
  obtain ⟨⟨h1, h2, h3, h4, h5, h6, h7, h8, h9, hstuck⟩, hctx⟩ := h
  exact ⟨⟨h1, h2, h3, h4, h5, h6, Nat.zero_le _, h8, h9, hstuck⟩, hctx⟩

/-- A change of the riders leaves every count. -/
theorem countsBounded_riders (v : Vector Bucket 1024) : CountsBounded { s with riders := v } = CountsBounded s := rfl

theorem Moves.countsBounded (h : Moves S s t) : CountsBounded s → CountsBounded t := by
  induction h with
  | refl => exact id
  | trans _ _ h1 h2 => exact h2 ∘ h1
  | plain _ h => exact h
  | ctx s d f h => exact countsBounded_modCtx h.counts
  | ctxs s f h => exact countsBounded_mapCtxs fun d => (h d).counts
  | free s d f _ h => exact countsBounded_modCtx h
  | remove s r f _ h => exact countsBounded_modCtx (s := s.eraseRecord r.number) h.counts
  | add s r f _ _ _ _ _ _ _ _ h => exact countsBounded_modCtx (s := s.addRecord r) h
  | advance s r g f _ _ _ _ _ _ _ _ h => exact countsBounded_modCtx (s := s.modRecord r.number g) h
  | str s m x h => exact countsBounded_setStr h
  | loads s l b _ h => exact countsBounded_loads h
  | commit => exact countsBounded_committed
  | tick => exact countsBounded_takeTick
  | islanded _ _ ih => exact ih ∘ countsBounded_goIslanded
  | resetDocks => exact countsBounded_resetDocks
  | blank h hu => exact fun _ => h.countsBounded hu
  | rider s k f => exact (modRider_keeps CountsBounded (fun s v => countsBounded_riders v) s k f).mpr
  | drop s k => exact (dropRider_keeps CountsBounded (fun s v => countsBounded_riders v) s k).mpr
  | insert _ h => exact (insertRider_keeps CountsBounded (fun s v => countsBounded_riders v) h).mpr
  | deframer => exact id
  | blocks => exact id
  | epoch => exact id
  | online => exact id

/-! ## The Rider Table (R16 to R18, R25, R28) -/

theorem riderTableSound_congr (h : t.riders = s.riders) : RiderTableSound s → RiderTableSound t := by
  unfold RiderTableSound State.bucket
  rw [h]
  exact id

/-- A way written with a sound entry of its bucket whose key no other way holds, or emptied, leaves the table sound. -/
theorem riderTableSound_setWay {b : Fin 1024} {w : Fin 4} {x : Option RiderEntry} (h : RiderTableSound s)
    (hx : ∀ e, x = some e → EntrySound e ∧ bucketOf e.key = b ∧
      ∀ v e', v ≠ w → (s.bucket b).get v = some e' → e'.key ≠ e.key) : RiderTableSound (s.setWay b w x) := by
  obtain ⟨hall, honce⟩ := h
  constructor
  · intro c v e he
    rw [get_bucket_setWay] at he
    split at he
    · next hc =>
      obtain ⟨hsound, hb, -⟩ := hx e he
      exact ⟨hsound, hb.trans hc.1⟩
    · exact hall c v e he
  · intro c v v' e e' he he' hkey
    rw [get_bucket_setWay] at he he'
    split at he
    · next hc =>
      split at he'
      · next hc' => exact hc.2.symm.trans hc'.2
      · next hc' =>
        rw [← hc.1] at he'
        exact absurd hkey.symm ((hx e he).2.2 v' e' (fun hv => hc' ⟨hc.1, hv.symm⟩) he')
    · next hc =>
      split at he'
      · next hc' =>
        rw [← hc'.1] at he
        exact absurd hkey ((hx e' he').2.2 v e (fun hv => hc ⟨hc'.1, hv.symm⟩) he)
      · exact honce c v v' e e' he he' hkey

theorem riderTableSound_modRider {k : Key} {f : RiderEntry → RiderEntry} (hkey : ∀ e, (f e).key = e.key)
    (hf : ∀ e, s.lookup k = some e → EntrySound e → EntrySound (f e)) (h : RiderTableSound s) :
    RiderTableSound (s.modRider k f) := by
  rcases modRider_cases s k f with ⟨-, heq⟩ | ⟨w, e, hlook, hget, heq⟩ <;> rw [heq]
  · exact h
  · obtain ⟨hsound, hb⟩ := h.1 _ _ _ hget
    refine riderTableSound_setWay h fun e' he' => ?_
    cases he'
    rw [hkey]
    exact ⟨hf e hlook hsound, hb, fun v e' hv he' hk => hv (h.2 _ _ _ _ _ he' hget hk)⟩

theorem riderTableSound_dropRider (k : Key) (h : RiderTableSound s) : RiderTableSound (s.dropRider k) := by
  rcases dropRider_cases s k with ⟨-, heq⟩ | ⟨w, -, heq⟩ <;> rw [heq]
  · exact h
  · exact riderTableSound_setWay h fun e he => by cases he

theorem riderTableSound_insertRider {e : RiderEntry} (ht : s.insertRider e = some t) (habsent : s.lookup e.key = none)
    (he : e.key ≠ 0 → EntrySound e) (h : RiderTableSound s) : RiderTableSound t := by
  obtain ⟨hk, w, -, rfl⟩ := insertRider_eq_some ht
  refine riderTableSound_setWay h fun e' he' => ?_
  cases he'
  refine ⟨he hk, rfl, fun v e' _ hget hkey => ?_⟩
  have hsome : (s.lookup e.key).isSome = true := lookup_isSome_iff.2 ⟨hk, v, by rw [hget, holdsKey_some]; exact hkey⟩
  simp [habsent] at hsome

theorem Moves.riderTableSound (h : Moves S s t) : RiderTableSound s → RiderTableSound t := by
  induction h with
  | refl => exact id
  | trans _ _ h1 h2 => exact h2 ∘ h1
  | rider _ _ _ hkey h => exact riderTableSound_modRider hkey h
  | drop _ k => exact riderTableSound_dropRider k
  | insert _ h habsent he => exact riderTableSound_insertRider h habsent he
  | islanded _ _ ih => exact ih
  | blank h => exact fun _ => h.riderTableSound
  | plain h => exact riderTableSound_congr h.riders
  | _ => exact riderTableSound_congr (by simp [State.committed, State.commitDocks, State.resetDocks, takeTick])

end Sys2Proof.Machine
end

section
/-! What the moves keep: records, docks and riders in step (R22, R42, R44, R81, R82, R84, R85). -/

namespace Sys2Proof.Machine

variable {S : Prop} {s t : State}

/-! ## Release numbers (R82) -/

theorem freeNumber_of_held {held : List Half} : ∀ (fuel : Nat) (c : Half), (∀ i < fuel, c + BitVec.ofNat 16 i ∈ held) →
    freeNumber held fuel c = c + BitVec.ofNat 16 fuel
  | 0, c, _ => by simp [freeNumber]
  | fuel + 1, c, h => by
    have hc : c ∈ held := by simpa using h 0 (Nat.succ_pos fuel)
    have hstep : ∀ i, c + 1 + BitVec.ofNat 16 i = c + BitVec.ofNat 16 (i + 1) := fun i => by
      rw [BitVec.add_assoc]
      congr 1
      apply BitVec.eq_of_toNat_eq
      simp
      omega
    rw [freeNumber, if_pos hc, freeNumber_of_held fuel (c + 1) fun i hi => by rw [hstep]; exact h (i + 1) (by omega), hstep]

/-- The number that a new record takes is held by no live record: fewer numbers are held than the candidates looked at. -/
theorem newNumber_fresh (h : s.records.length < 65536) : s.newNumber ∉ s.records.map Record.number := by
  rcases freeNumber_spec (s.records.map Record.number) s.records.length s.nextNumber with hfree | hheld
  · exact hfree
  · intro hmem
    have hlast : s.nextNumber + BitVec.ofNat 16 s.records.length ∈ s.records.map Record.number := by
      rw [← freeNumber_of_held _ _ hheld]
      exact hmem
    have hall : ∀ i < s.records.length + 1, s.nextNumber + BitVec.ofNat 16 i ∈ s.records.map Record.number := fun i hi => by
      rcases Nat.lt_succ_iff_lt_or_eq.1 hi with hi | rfl
      · exact hheld i hi
      · exact hlast
    have hinj : ((List.range (s.records.length + 1)).map fun i => s.nextNumber + BitVec.ofNat 16 i).Nodup := by
      refine List.Nodup.map_on (fun i hi j hj hij => ?_) List.nodup_range
      have hi := List.mem_range.1 hi
      have hj := List.mem_range.1 hj
      have hval := congrArg BitVec.toNat (add_left_cancel hij)
      simp only [BitVec.toNat_ofNat] at hval
      omega
    have hsub := hinj.subperm (l₂ := s.records.map Record.number) fun n hn => by
      obtain ⟨i, hi, rfl⟩ := List.mem_map.1 hn
      exact hall i (List.mem_range.1 hi)
    have hlen := hsub.length_le
    simp only [List.length_map, List.length_range] at hlen
    omega

/-! ## The parts of the invariant -/

/-- Records of one number are one. -/
theorem RecordsMatchDocks.eq_of_number (h : RecordsMatchDocks s) {r x : Record} (hr : r ∈ s.records) (hx : x ∈ s.records)
    (hn : x.number = r.number) : x = r := eq_of_nodup_map h.2.1 hx hr hn

/-- Records of one dock are one. -/
theorem RecordsMatchDocks.eq_of_dock (h : RecordsMatchDocks s) {r x : Record} (hr : r ∈ s.records) (hx : x ∈ s.records)
    (hd : x.dock = r.dock) : x = r := eq_of_nodup_map h.2.2.1 hx hr hd

theorem held_iff {c : DockContext} : Held c ↔ ∃ st, c.state = stateOfRecord st := by
  constructor
  · rintro (h | h | h)
    · exact ⟨.referred, h⟩
    · exact ⟨.opening, h⟩
    · exact ⟨.opened, h⟩
  · rintro ⟨st, h⟩
    cases st
    · exact .inl h
    · exact .inr (.inl h)
    · exact .inr (.inr h)

theorem NamedBy.held {c : DockContext} {st : RecState} {n : Half} (h : NamedBy c st n) : Held c := held_iff.2 ⟨st, h.1⟩

theorem Held.ne_unpolled {c : DockContext} (h : Held c) : c.state ≠ .unpolled := by
  rcases h with h | h | h <;> simp [h]

/-- The dock of a record is held. -/
theorem RecordsMatchDocks.held (h : RecordsMatchDocks s) {r : Record} (hr : r ∈ s.records) : Held (s.ctx r.dock) :=
  held_iff.2 ⟨r.state, state_of_record h hr⟩

/-- Records and docks still match after one dock's context and the records of that dock have changed: every other dock has the
records it had, and the changed dock is named by its record, if it has one. -/
theorem RecordsMatchDocks.change (h : RecordsMatchDocks s) (d : DockNo) {c : DockContext}
    (hctx : ∀ e, t.ctx e = if d = e then c else s.ctx e) (hpolled : ∀ e, t.polled e = s.polled e)
    (hlen : t.records.length ≤ 16) (hnumber : (t.records.map Record.number).Nodup) (hdock : (t.records.map Record.dock).Nodup)
    (hother : ∀ r, r.dock ≠ d → (r ∈ t.records ↔ r ∈ s.records)) (hhere : ∀ r ∈ t.records, r.dock = d → NamedBy c r.state r.number)
    (hheld : Held c → ∃ r ∈ t.records, r.dock = d) (hrecord : c.record.isSome = true → Held c)
    (hnot : c.state ≠ .unpolled) (hwas : (s.ctx d).state ≠ .unpolled) : RecordsMatchDocks t := by
  obtain ⟨-, -, -, hmatch, hnamed, hisSome, hunpolled⟩ := h
  have hd : t.ctx d = c := by rw [hctx, if_pos rfl]
  have he : ∀ e, e ≠ d → t.ctx e = s.ctx e := fun e hne => by rw [hctx, if_neg hne.symm]
  refine ⟨hlen, hnumber, hdock, fun r hr => ?_, fun e hh => ?_, fun e hh => ?_, fun e => ?_⟩
  · by_cases hrd : r.dock = d
    · rw [hrd, hd]
      exact hhere r hr hrd
    · rw [he _ hrd]
      exact hmatch r ((hother r hrd).1 hr)
  · by_cases hed : e = d
    · subst hed
      exact hheld (hd ▸ hh)
    · obtain ⟨r, hr, rfl⟩ := hnamed e (he e hed ▸ hh)
      exact ⟨r, (hother r hed).2 hr, rfl⟩
  · by_cases hed : e = d
    · subst hed
      rw [hd] at hh ⊢
      exact hrecord hh
    · rw [he e hed] at hh ⊢
      exact hisSome e hh
  · by_cases hed : e = d
    · subst hed
      rw [hd, hpolled, ← hunpolled]
      simp [hnot, hwas]
    · rw [he e hed, hpolled, hunpolled]

/-- Where no record and no polled dock has changed, nor a state or record of a dock, and every named rider still has an entry, the
Release List is sound as before. -/
theorem ReleasesSound.of_lookups (h : ReleasesSound s) (hr : t.records = s.records)
    (hc : ∀ d, (t.ctx d).state = (s.ctx d).state ∧ (t.ctx d).record = (s.ctx d).record) (hp : ∀ d, t.polled d = s.polled d)
    (hl : ∀ k, s.named k = true → (s.lookup k).isSome = true → (t.lookup k).isSome = true) : ReleasesSound t := by
  obtain ⟨⟨h1, h2, h3, hmatch, hnamed, hisSome, hunpolled⟩, hsound, hcounted⟩ := h
  have hheld : ∀ d, Held (t.ctx d) ↔ Held (s.ctx d) := fun d => by simp only [Held, (hc d).1]
  rw [ReleasesSound, RecordsMatchDocks, CountedRidersKept, hr]
  refine ⟨⟨h1, h2, h3, fun r hm => ?_, fun d hd => hnamed d ((hheld d).1 hd), fun d hd => ?_, fun d => ?_⟩, hsound,
    fun r hm => ⟨(hcounted r hm).1, fun hcount => ?_⟩⟩
  · rw [(hc _).1, (hc _).2]
    exact hmatch r hm
  · rw [(hc d).2] at hd
    exact (hheld d).2 (hisSome d hd)
  · rw [(hc d).1, hp]
    exact hunpolled d
  · obtain ⟨k, hk, hsome⟩ := (hcounted r hm).2 hcount
    exact ⟨k, hk, hl k (named_iff.2 ⟨r, hm, hk⟩) hsome⟩

/-! ## Moves of one dock -/

theorem ReleasesSound.stays {d : DockNo} {f : DockContext → DockContext} (hf : Stays (s.ctx d) (f (s.ctx d)))
    (h : ReleasesSound s) : ReleasesSound (s.modCtx d f) := by
  refine h.of_lookups rfl (fun e => ?_) (modCtx_polled s d f) fun k _ hk => hk
  rw [ctx_modCtx]
  split
  · next hde => rw [← hde]; exact ⟨hf.state, hf.record⟩
  · exact ⟨rfl, rfl⟩

theorem ReleasesSound.free {d : DockNo} {f : DockContext → DockContext} (hd : Free (s.ctx d))
    (hf : Frees (s.ctx d) (f (s.ctx d))) (h : ReleasesSound s) : ReleasesSound (s.modCtx d f) := by
  obtain ⟨hdocks, hsound, hcounted⟩ := h
  have hno : ∀ r ∈ s.records, r.dock ≠ d := by
    rintro r hr rfl
    exact hd.1 (hdocks.held hr)
  exact ⟨hdocks.change d (ctx_modCtx s d · f) (modCtx_polled s d f) hdocks.1 hdocks.2.1 hdocks.2.2.1 (fun _ _ => Iff.rfl)
    (fun r hr hrd => absurd hrd (hno r hr)) (fun hh => absurd hh hf.free) (by simp [hf.record]) hf.polled hd.2, hsound, hcounted⟩

theorem mem_eraseRecord {n : Half} {x : Record} : x ∈ (s.eraseRecord n).records ↔ x ∈ s.records ∧ x.number ≠ n := by
  simp [State.eraseRecord]

theorem ReleasesSound.remove {r : Record} {f : DockContext → DockContext} (hr : r ∈ s.records)
    (hf : Frees (s.ctx r.dock) (f (s.ctx r.dock))) (h : ReleasesSound s) :
    ReleasesSound ((s.eraseRecord r.number).modCtx r.dock f) := by
  obtain ⟨hdocks, hsound, hcounted⟩ := h
  have hsub : (s.eraseRecord r.number).records.Sublist s.records := List.filter_sublist
  refine ⟨hdocks.change r.dock (ctx_modCtx (s.eraseRecord r.number) r.dock · f) (fun _ => rfl) (hsub.length_le.trans hdocks.1)
    (hdocks.2.1.sublist (hsub.map _)) (hdocks.2.2.1.sublist (hsub.map _)) (fun x hx => ?_) (fun x hx hxd => ?_)
    (fun hh => absurd hh hf.free) (fun hh => ?_) hf.polled (hdocks.held hr).ne_unpolled, fun x hx => hsound x (hsub.subset hx),
    fun x hx => hcounted x (hsub.subset hx)⟩
  · refine mem_eraseRecord.trans ⟨And.left, fun hm => ⟨hm, fun hn => hx ?_⟩⟩
    rw [hdocks.eq_of_number hr hm hn]
  · obtain ⟨hm, hn⟩ := mem_eraseRecord.1 hx
    exact absurd (congrArg Record.number (hdocks.eq_of_dock hr hm hxd)) hn
  · have hnone : (f (s.ctx r.dock)).record.isSome = true := hh
    simp [hf.record] at hnone

theorem ReleasesSound.add {r : Record} {f : DockContext → DockContext} (hnumber : r.number = s.newNumber)
    (hroom : s.records.length < 16) (hd : Free (s.ctx r.dock)) (hr : RecordSound r) (hcharged : r.charged = true → r.counted = true)
    (hcounted : r.counted = true → ∃ k, r.rider = some k ∧ (s.lookup k).isSome = true)
    (hf : NamedBy (f (s.ctx r.dock)) r.state r.number) (h : ReleasesSound s) :
    ReleasesSound ((s.addRecord r).modCtx r.dock f) := by
  obtain ⟨hdocks, hsound, hcount⟩ := h
  have hmem : ∀ x, x ∈ (s.addRecord r).records ↔ x ∈ s.records ∨ x = r := fun x => by simp [State.addRecord]
  have hfresh := newNumber_fresh (s := s) (by omega)
  have hno : ∀ x ∈ s.records, x.dock ≠ r.dock := by
    rintro x hx hxd
    exact hd.1 (hxd ▸ hdocks.held hx)
  refine ⟨hdocks.change r.dock (ctx_modCtx (s.addRecord r) r.dock · f) (fun _ => rfl) ?_ ?_ ?_ (fun x hx => ?_) (fun x hx hxd => ?_)
    (fun _ => ⟨r, (hmem r).2 (.inr rfl), rfl⟩) (fun _ => hf.held) hf.held.ne_unpolled hd.2, fun x hx => ?_, fun x hx => ?_⟩
  · simpa [State.addRecord] using hroom
  · simpa [State.addRecord, List.nodup_append, hdocks.2.1, hnumber] using hfresh
  · simpa [State.addRecord, List.nodup_append, hdocks.2.2.1] using hno
  · exact (hmem x).trans ⟨fun hx' => hx'.resolve_right fun e => hx (by rw [e]), .inl⟩
  · rcases (hmem x).1 hx with hx | rfl
    · exact absurd hxd (hno x hx)
    · exact hf
  · rcases (hmem x).1 hx with hx | rfl
    · exact hsound x hx
    · exact hr
  · rcases (hmem x).1 hx with hx | rfl
    · exact hcount x hx
    · exact ⟨hcharged, hcounted⟩

theorem mem_modRecord {n : Half} {g : Record → Record} {x : Record} :
    x ∈ (s.modRecord n g).records ↔ ∃ y ∈ s.records, (if y.number = n then g y else y) = x := by simp [State.modRecord]

/-- The records after one was replaced: the replacement, and every record of another number. -/
theorem RecordsMatchDocks.mem_modRecord (h : RecordsMatchDocks s) {r : Record} (hr : r ∈ s.records) {g : Record → Record}
    {x : Record} : x ∈ (s.modRecord r.number g).records ↔ x = g r ∨ (x ∈ s.records ∧ x.number ≠ r.number) := by
  rw [Machine.mem_modRecord]
  constructor
  · rintro ⟨y, hy, rfl⟩
    split
    · next hn => exact .inl (by rw [h.eq_of_number hr hy hn])
    · next hn => exact .inr ⟨hy, hn⟩
  · rintro (rfl | ⟨hx, hn⟩)
    · exact ⟨r, hr, if_pos rfl⟩
    · exact ⟨x, hx, if_neg hn⟩

theorem ReleasesSound.advance {r : Record} {g : Record → Record} {f : DockContext → DockContext} (hr : r ∈ s.records)
    (hnumber : ∀ x, (g x).number = x.number) (hdock : ∀ x, (g x).dock = x.dock) (hsound : RecordSound (g r))
    (hcharged : (g r).charged = true → (g r).counted = true)
    (hcounted : (g r).counted = true → ∃ k, (g r).rider = some k ∧ (s.lookup k).isSome = true)
    (hf : NamedBy (f (s.ctx r.dock)) (g r).state r.number) (h : ReleasesSound s) :
    ReleasesSound ((s.modRecord r.number g).modCtx r.dock f) := by
  obtain ⟨hdocks, hall, hcount⟩ := h
  have hkeep : ∀ {β : Type} (p : Record → β), (∀ x, p (g x) = p x) →
      (s.modRecord r.number g).records.map p = s.records.map p := fun p hp => by
    simp only [State.modRecord, List.map_map]
    refine List.map_congr_left fun x _ => ?_
    simp only [Function.comp]
    split
    · exact hp x
    · rfl
  have hother : ∀ x, x.dock ≠ r.dock → (x ∈ (s.modRecord r.number g).records ↔ x ∈ s.records) := fun x hx => by
    rw [hdocks.mem_modRecord hr]
    constructor
    · rintro (rfl | ⟨hm, -⟩)
      · exact absurd (hdock r) hx
      · exact hm
    · exact fun hm => .inr ⟨hm, fun hn => hx (by rw [hdocks.eq_of_number hr hm hn])⟩
  have hgr : g r ∈ (s.modRecord r.number g).records := (hdocks.mem_modRecord hr).2 (.inl rfl)
  refine ⟨hdocks.change r.dock (ctx_modCtx (s.modRecord r.number g) r.dock · f) (fun _ => rfl) ?_ ?_ ?_ hother (fun x hx hxd => ?_)
    (fun _ => ⟨g r, hgr, hdock r⟩) (fun _ => hf.held) hf.held.ne_unpolled (hdocks.held hr).ne_unpolled, fun x hx => ?_,
    fun x hx => ?_⟩
  · simpa [State.modRecord] using hdocks.1
  · exact (hkeep Record.number hnumber).symm ▸ hdocks.2.1
  · exact (hkeep Record.dock hdock).symm ▸ hdocks.2.2.1
  · rcases (hdocks.mem_modRecord hr).1 hx with rfl | ⟨hm, hn⟩
    · rw [hnumber]
      exact hf
    · exact absurd (congrArg Record.number (hdocks.eq_of_dock hr hm hxd)) hn
  · rcases (hdocks.mem_modRecord hr).1 hx with rfl | ⟨hm, -⟩
    · exact hsound
    · exact hall x hm
  · rcases (hdocks.mem_modRecord hr).1 hx with rfl | ⟨hm, -⟩
    · exact ⟨hcharged, hcounted⟩
    · exact hcount x hm

/-! ## Moves of every dock, of the riders, the tick -/

/-- After DOCK_IN_USE has passed, a dock that a record names keeps its address (R158). -/
theorem address_of_namedKept {descs : Vector DockDesc 48} {p : Params} (h : s.namedKept descs p = true) {r : Record}
    (hr : r ∈ s.records) : address s.descs s.params r.dock = address descs p r.dock := by
  have hanchor : anchor descs p r.dock = anchor s.descs s.params r.dock := by simpa using List.all_eq_true.1 h r hr
  simp only [anchor, Prod.mk.injEq] at hanchor
  obtain ⟨hkind, halias, hstring⟩ := hanchor
  simp only [address, polledOn, hkind, halias, hstring]

theorem commitCtx_moveOut {descs : Vector DockDesc 48} {p : Params} {d : DockNo} (c : DockContext)
    (h : address s.descs s.params d ≠ address descs p d) : s.polled d = polledOn (descs.get d) p d ∧ s.polled d = false ∧
      (s.commitCtx descs p d c).state = c.state ∧ (s.commitCtx descs p d c).record = c.record ∨
    (s.commitCtx descs p d c).record = none ∧ (s.commitCtx descs p d c).state =
      if polledOn (descs.get d) p d then .unseen else .unpolled := by
  unfold State.commitCtx
  cases hwas : s.polled d <;> cases hnow : polledOn (descs.get d) p d <;>
    simp [h, DockContext.moveOut, DockContext.forgetStatus, DockContext.setLight, DockContext.withdraw, DockContext.moveTo]

theorem commitCtx_stays {descs : Vector DockDesc 48} {p : Params} {d : DockNo} (c : DockContext)
    (h : address s.descs s.params d = address descs p d) : s.polled d = polledOn (descs.get d) p d ∧
      (s.commitCtx descs p d c).state = c.state ∧ (s.commitCtx descs p d c).record = c.record := by
  have hpolled : s.polled d = polledOn (descs.get d) p d := congrArg Prod.fst h
  refine ⟨hpolled, ?_⟩
  unfold State.commitCtx
  rw [← hpolled]
  dsimp only
  rw [if_neg fun hx => by simp [hx.1] at hx, if_neg fun hx => by simp [hx.1] at hx, if_neg fun hx => hx.2.2 h]
  split <;> exact ⟨rfl, rfl⟩

section
variable (descs : Vector DockDesc 48) (p : Params)

theorem committed_records : (s.committed descs p).records = s.records := by simp [State.committed, State.commitDocks]

theorem committed_lookup (k : Key) : (s.committed descs p).lookup k = s.lookup k :=
  lookup_congr (by simp [State.committed, State.commitDocks]) k

theorem committed_ctx (d : DockNo) : (s.committed descs p).ctx d = s.commitCtx descs p d (s.ctx d) := by
  rw [← ctx_mapCtxs s (s.commitCtx descs p)]
  exact ctx_congr (by simp [State.committed, State.commitDocks]) d

theorem committed_polled (d : DockNo) : (s.committed descs p).polled d = polledOn (descs.get d) p d := by
  simp [State.committed, State.commitDocks, State.polled, State.desc]

end

theorem ReleasesSound.committed {descs : Vector DockDesc 48} {p : Params} (hkept : s.namedKept descs p = true)
    (h : ReleasesSound s) : ReleasesSound (s.committed descs p) := by
  obtain ⟨⟨h1, h2, h3, hmatch, hnamed, hisSome, hunpolled⟩, hsound, hcounted⟩ := h
  have hctx := committed_ctx (s := s) descs p
  have hpolled := committed_polled (s := s) descs p
  have hunheld : ∀ d, address s.descs s.params d ≠ address descs p d → ¬Held (s.ctx d) := fun d hne hh => by
    obtain ⟨r, hr, rfl⟩ := hnamed d hh
    exact hne (address_of_namedKept hkept hr)
  have hsame : ∀ d, address s.descs s.params d = address descs p d → ((s.committed descs p).ctx d).state = (s.ctx d).state ∧
      ((s.committed descs p).ctx d).record = (s.ctx d).record ∧ (s.committed descs p).polled d = s.polled d := fun d ha => by
    obtain ⟨hp, hst, hrec⟩ := commitCtx_stays (s.ctx d) ha
    rw [hctx, hpolled]
    exact ⟨hst, hrec, hp.symm⟩
  have hmoved : ∀ d, address s.descs s.params d ≠ address descs p d → ¬Held ((s.committed descs p).ctx d) ∧
      ((s.committed descs p).ctx d).record = none ∧
      (((s.committed descs p).ctx d).state = .unpolled ↔ (s.committed descs p).polled d = false) := fun d ha => by
    have hnone : (s.ctx d).record = none := by
      by_contra hrec
      exact hunheld d ha (hisSome d (Option.isSome_iff_ne_none.2 hrec))
    rw [hctx, hpolled]
    rcases commitCtx_moveOut (s.ctx d) ha with ⟨hp, hwas, hst, hrec⟩ | ⟨hrec, hst⟩
    · refine ⟨fun hh => hunheld d ha ?_, hrec.trans hnone, ?_⟩
      · simpa only [Held, hst] using hh
      · rw [hst, ← hp]
        exact hunpolled d
    · refine ⟨?_, hrec, ?_⟩ <;> simp only [Held, hst] <;> cases polledOn (descs.get d) p d <;> simp
  rw [ReleasesSound, RecordsMatchDocks, CountedRidersKept]
  simp only [committed_records, committed_lookup]
  refine ⟨⟨h1, h2, h3, fun r hr => ?_, fun d hh => ?_, fun d hh => ?_, fun d => ?_⟩, hsound, hcounted⟩
  · obtain ⟨hst, hrec, -⟩ := hsame _ (address_of_namedKept hkept hr)
    rw [hst, hrec]
    exact hmatch r hr
  all_goals by_cases ha : address s.descs s.params d = address descs p d
  · exact hnamed d (by simpa only [Held, (hsame d ha).1] using hh)
  · exact absurd hh (hmoved d ha).1
  · rw [(hsame d ha).2.1] at hh
    simpa only [Held, (hsame d ha).1] using hisSome d hh
  · simp [(hmoved d ha).2.1] at hh
  · rw [(hsame d ha).1, (hsame d ha).2.2]
    exact hunpolled d
  · exact (hmoved d ha).2.2

theorem recordSound_tick {r : Record} (h : RecordSound r) : RecordSound r.tick := by
  unfold RecordSound Record.tick at *
  cases hst : r.state <;> simp only [hst] at h ⊢
  · obtain ⟨h1, h2, h3, h4, h5, n, hn⟩ := h
    exact ⟨h1, h2, h3, h4, h5, n - 1, by rw [hn]; rfl⟩
  · exact ⟨h.1, by rw [h.2]; rfl⟩
  · obtain ⟨h1, n, hn⟩ := h
    exact ⟨h1, n - 1, by rw [hn]; rfl⟩

theorem ReleasesSound.tick (h : ReleasesSound s) : ReleasesSound (takeTick s) := by
  obtain ⟨⟨h1, h2, h3, hmatch, hnamed, hisSome, hunpolled⟩, hsound, hcounted⟩ := h
  have hmem : ∀ x ∈ (takeTick s).records, ∃ r ∈ s.records, r.tick = x := fun x hx => List.mem_map.1 hx
  refine ⟨⟨?_, ?_, ?_, fun x hx => ?_, fun d hh => ?_, hisSome, hunpolled⟩, fun x hx => ?_, fun x hx => ?_⟩
  · simpa [takeTick] using h1
  · simpa [takeTick, Function.comp_def, Record.tick] using h2
  · simpa [takeTick, Function.comp_def, Record.tick] using h3
  · obtain ⟨r, hr, rfl⟩ := hmem x hx
    exact hmatch r hr
  · obtain ⟨r, hr, hd⟩ := hnamed d hh
    exact ⟨r.tick, List.mem_map_of_mem hr, hd⟩
  · obtain ⟨r, hr, rfl⟩ := hmem x hx
    exact recordSound_tick (hsound r hr)
  · obtain ⟨r, hr, rfl⟩ := hmem x hx
    exact hcounted r hr

/-- With no record left, every polled dock goes to UNSEEN. -/
theorem ReleasesSound.resetDocks {named : List DockNo} (hnone : s.records = []) (h : ReleasesSound s) :
    ReleasesSound (s.resetDocks named) := by
  obtain ⟨⟨-, -, -, -, hnamed, hisSome, hunpolled⟩, -, -⟩ := h
  have hrecords : (s.resetDocks named).records = [] := hnone
  have hfree : ∀ d, ¬Held (s.ctx d) := fun d hh => by
    obtain ⟨r, hr, -⟩ := hnamed d hh
    simp [hnone] at hr
  have hctx : ∀ d, (s.resetDocks named).ctx d =
      if s.polled d then (s.ctx d).runtimeReset (named.contains d) else s.ctx d := fun d => ctx_mapCtxs s _ d
  have hreset : ∀ (c : DockContext) (b : Bool), (c.runtimeReset b).state = .unseen ∧ (c.runtimeReset b).record = none :=
    fun c b => by cases b <;> exact ⟨rfl, rfl⟩
  have hp : ∀ d, (s.resetDocks named).polled d = s.polled d := mapCtxs_polled s _
  have hfree' : ∀ d, ¬Held ((s.resetDocks named).ctx d) := fun d => by
    rw [hctx]
    split
    · simp [Held, hreset]
    · exact hfree d
  refine ⟨⟨by simp [hrecords], by simp [hrecords], by simp [hrecords], by simp [hrecords], fun d hh => absurd hh (hfree' d),
    fun d => ?_, fun d => ?_⟩, by simp [hrecords], by simp [CountedRidersKept, hrecords]⟩
  · rw [hctx]
    split
    · simp [hreset]
    · exact hisSome d
  · rw [hctx, hp]
    split
    · next hpoll => simp [hreset, hpoll]
    · exact hunpolled d

/-- Under the assumption that goes with them, the moves keep the Release List sound. -/
theorem Moves.releasesSound (hS : S) (h : Moves S s t) : ReleasesSound s → ReleasesSound t := by
  induction h with
  | refl => exact id
  | trans _ _ h1 h2 => exact h2 ∘ h1
  | plain h =>
    exact fun hs => releasesSound_of_eq hs h.records (fun d => by rw [ctx_congr h.ctxs]; exact ⟨rfl, rfl⟩)
      (polled_congr h.descs h.params) (lookup_congr h.riders)
  | ctx _ _ _ h => exact ReleasesSound.stays h
  | ctxs s f h =>
    refine fun hs => hs.of_lookups rfl (fun d => ?_) (mapCtxs_polled s f) fun _ _ hk => hk
    rw [ctx_mapCtxs]
    exact ⟨(h d).state, (h d).record⟩
  | free _ _ _ h => exact ReleasesSound.free (h hS).1 (h hS).2
  | remove _ _ _ hr h => exact ReleasesSound.remove (hr hS) h
  | add _ _ _ hnumber hroom hd hsound hcharged hcounted _ h =>
    exact ReleasesSound.add hnumber hroom (hd hS) hsound hcharged hcounted h
  | advance _ _ _ _ hr hnumber hdock _ hsound hcharged hcounted h =>
    exact ReleasesSound.advance (hr hS) hnumber hdock (hsound hS) (hcharged hS) (hcounted hS) (h hS)
  | rider s k f hkey =>
    refine fun hs => hs.of_lookups (modRider_records s k f) (fun d => by simp) (modRider_polled s k f) fun k' _ hk' => ?_
    rw [lookup_modRider s k f hkey]
    split
    · next hkk => rw [hkk] at hk'; simpa using hk'
    · exact hk'
  | drop s k h =>
    refine fun hs => hs.of_lookups (dropRider_records s k) (fun d => by simp) (dropRider_polled s k) fun k' hn hk' => ?_
    rw [lookup_dropRider_ne s (by rintro rfl; simp [hn] at h)]
    exact hk'
  | @insert s t e h habsent =>
    have hkeeps {α : Type} (g : State → α) (hg : ∀ s v, g { s with riders := v } = g s) : g t = g s := insertRider_keeps g hg h
    refine fun hs => hs.of_lookups (hkeeps State.records fun _ _ => rfl) (fun d => ?_) (fun d => ?_) fun k hn hk => ?_
    · rw [ctx_congr (hkeeps State.ctxs fun _ _ => rfl)]
      exact ⟨rfl, rfl⟩
    · exact polled_congr (hkeeps State.descs fun _ _ => rfl) (hkeeps State.params fun _ _ => rfl) d
    · rw [(lookup_insertRider h habsent).2 k hn hk]
      exact hk
  | str s m x =>
    exact fun hs => releasesSound_of_eq hs (by simp) (fun d => by simp) (setStr_polled s m x) (setStr_lookup s m x)
  | commit _ _ _ h => exact ReleasesSound.committed h
  | tick => exact ReleasesSound.tick
  | islanded _ _ ih => exact ih
  | resetDocks _ _ h => exact ReleasesSound.resetDocks (h hS)
  | blank h => exact fun _ => h.releasesSound
  | loads => exact id
  | deframer => exact id
  | blocks => exact id
  | epoch => exact id
  | online => exact id

end Sys2Proof.Machine
end

section
/-! The operations that the families share, as moves: frames offered, rider entries, dock contexts, records. -/

namespace Sys2Proof.Machine

variable {S : Prop} {s t u : State}

/-- The moves that lead from one state to another, given that the assumption `S` promises a sound Release List at the first. -/
def Goes (S : Prop) (s t : State) : Prop := (S → ReleasesSound s) → Moves S s t

theorem Moves.goes (h : Moves S s t) : Goes S s t := fun _ => h

theorem Goes.trans (h : Goes S s t) (h' : Goes S t u) : Goes S s u :=
  fun hs => (h hs).trans (h' fun hS => (h hs).releasesSound hS (hs hS))

theorem Goes.refl (s : State) : Goes S s s := (Moves.refl s).goes

/-! ## Frames offered, counts (R175, R181) -/

theorem offer_moves (s : State) (f : Uplink) : Moves S s (s.offer f) := by
  refine .plain (by constructor <;> simp) fun h => ?_
  obtain ⟨hlen, h1, h2, hdrops, h⟩ := h
  rcases offer_cases s f with ⟨hroom, he⟩ | ⟨-, he⟩ <;> rw [he]
  · exact ⟨by simpa using hroom, h1, h2, hdrops, h⟩
  · exact ⟨hlen, h1, h2, Nat.min_le_left _ _, h⟩

theorem offers_moves (h : Moves S s t) (f : Uplink) : Moves S s (t.offer f) := h.trans (offer_moves t f)

theorem tellDock_moves (s : State) (d : DockNo) (e : DockEvent) : Moves S s (s.tellDock d e) := offer_moves s _

theorem countBad_moves (s : State) : Moves S s s.countBad :=
  .plain (by constructor <;> rfl) fun ⟨h1, _, h⟩ => ⟨h1, Nat.min_le_left _ _, h⟩

theorem countForeign_moves (s : State) : Moves S s s.countForeign :=
  .plain (by constructor <;> rfl) fun ⟨h1, h2, _, h⟩ => ⟨h1, h2, Nat.min_le_left _ _, h⟩

theorem withPending_moves (s : State) (q : List Instr) : Moves S s (s.withPending q) := .plain (by constructor <;> rfl) id

/-! ## Rider entries (R28, R29) -/

/-- A change of a rider entry that keeps its key and window, and its counts in range. -/
structure Recounts (e e' : RiderEntry) : Prop where
  key : e'.key = e.key
  top : e'.top = e.top
  used : e'.used = e.used
  allowance : e.allowance ≤ 63 → e'.allowance ≤ 63
  bikesOut : e.bikesOut ≤ 15 → e'.bikesOut ≤ 15

theorem Recounts.trans {e e' e'' : RiderEntry} (h : Recounts e e') (h' : Recounts e' e'') : Recounts e e'' :=
  ⟨h'.key.trans h.key, h'.top.trans h.top, h'.used.trans h.used, h'.allowance ∘ h.allowance, h'.bikesOut ∘ h.bikesOut⟩

theorem Recounts.refl (e : RiderEntry) : Recounts e e := ⟨rfl, rfl, rfl, id, id⟩

theorem Recounts.entrySound {e e' : RiderEntry} (h : Recounts e e') (he : EntrySound e) : EntrySound e' := by
  obtain ⟨hk, ha, hb, hw⟩ := he
  refine ⟨h.key ▸ hk, h.allowance ha, h.bikesOut hb, ?_⟩
  unfold WindowSound at hw ⊢
  rw [h.top, h.used]
  exact hw

theorem rider_moves (s : State) (k : Key) {f : RiderEntry → RiderEntry} (h : ∀ e, Recounts e (f e)) :
    Moves S s (s.modRider k f) := .rider s k f (fun e => (h e).key) fun e _ => (h e).entrySound

section
variable (e : RiderEntry)

theorem recounts_bikeIn : Recounts e e.bikeIn := ⟨rfl, rfl, rfl, id, (Nat.sub_le _ _).trans⟩
theorem recounts_bikeOut : Recounts e e.bikeOut := ⟨rfl, rfl, rfl, id, fun _ => Nat.min_le_left _ _⟩
theorem recounts_takeCharge : Recounts e e.takeCharge := ⟨rfl, rfl, rfl, (Nat.sub_le _ _).trans, id⟩
theorem recounts_addAllowance (n : Nat) : Recounts e (e.addAllowance n) := ⟨rfl, rfl, rfl, fun _ => Nat.min_le_left _ _, id⟩
theorem recounts_setAllowance (n : Nat) : Recounts e (e.setAllowance n) := ⟨rfl, rfl, rfl, fun _ => Nat.min_le_left _ _, id⟩
theorem recounts_granted (now : Half) : Recounts e (e.granted now) := ⟨rfl, rfl, rfl, id, fun _ => Nat.min_le_left _ _⟩
theorem recounts_markDrop : Recounts e e.markDrop := ⟨rfl, rfl, rfl, id, id⟩
theorem recounts_putOver (r : BatchRecord) : Recounts e (e.putOver r) := ⟨rfl, rfl, rfl, fun _ => Nat.min_le_left _ _, id⟩

theorem recounts_grantedTap (charged : Bool) (now : Half) : Recounts e (e.grantedTap charged now) := by
  cases charged
  · exact recounts_granted e now
  · exact (recounts_granted e now).trans (recounts_takeCharge _)

theorem recounts_lateLift (charged : Bool) : Recounts e (e.lateLift charged) := by
  cases charged
  · exact recounts_bikeOut e
  · exact (recounts_bikeOut e).trans (recounts_takeCharge _)

theorem recounts_refund (counted charged : Bool) : Recounts e (e.refund counted charged) := by
  have hback : Recounts e (if counted then e.bikeIn else e) := by
    cases counted
    · exact .refl e
    · exact recounts_bikeIn e
  cases charged
  · exact hback
  · exact hback.trans (recounts_addAllowance _ 1)

end

theorem refundFor_moves (s : State) (r : Record) : Moves S s (s.refundFor r) := by
  unfold State.refundFor
  split
  · exact .refl s
  · exact rider_moves s _ fun e => recounts_refund e _ _

/-- The drop-pending test removes only entries that no record names. -/
theorem dropTest_moves (s : State) (k : Option Key) : Moves S s (s.dropTest k) := by
  cases k with
  | none => exact .refl s
  | some k =>
    cases he : s.lookup k with
    | none =>
      rw [dropTest_absent he]
      exact .refl s
    | some e =>
      rw [dropTest_found he]
      split
      · next htest => exact .drop s k (by simp only [Bool.and_eq_true, Bool.not_eq_true'] at htest; exact htest.2)
      · exact .refl s

theorem entrySound_provisionalEntry {k : Key} (cls : Fin 4) (seq now : Half) (hk : k ≠ 0) :
    EntrySound (provisionalEntry k cls seq now) := by
  have hnear : ∀ m ∈ [seq], (seq - m).toNat ≤ 15 := fun m hm => by
    rw [List.mem_singleton.1 hm, BitVec.sub_self]
    decide
  exact ⟨hk, Nat.zero_le _, Nat.zero_le _, rfl, List.pairwise_singleton _ _, hnear⟩

theorem createProvisional_moves {k : Key} {cls : Fin 4} {seq : Half} (h : s.createProvisional k cls seq = some t)
    (habsent : s.lookup k = none) : Moves S s t := .insert _ h habsent (entrySound_provisionalEntry cls seq _)

/-! ## Dock contexts (R44, R50, R54) -/

/-- The polled states in which no record names a dock (R44). -/
def DockState.unnamed : DockState → Bool
  | .unseen | .absent | .vacant | .holding | .closed | .faulted => true
  | .unpolled | .checking | .opening | .opened => false

theorem free_of_unnamed {c : DockContext} (h : c.state.unnamed = true) : Free c := by
  unfold Free Held
  cases hst : c.state <;> simp [hst, DockState.unnamed] at h ⊢

section
variable {c c' c'' : DockContext}

theorem Stays.trans (h : Stays c c') (h' : Stays c' c'') : Stays c c'' :=
  ⟨h'.state.trans h.state, h'.record.trans h.record, h'.counts ∘ h.counts⟩

theorem Stays.frees (h : Stays c c') (h' : Frees c' c'') : Frees c c'' :=
  ⟨h'.free, h'.polled, h'.record, h'.counts ∘ h.counts⟩

theorem Frees.stays (h : Frees c c') (h' : Stays c' c'') : Frees c c'' :=
  ⟨by simpa only [Held, h'.state] using h.free, by rw [h'.state]; exact h.polled, h'.record.trans h.record, h'.counts ∘ h.counts⟩

end

section
variable (c : DockContext)

theorem stays_withdraw : Stays c c.withdraw := ⟨rfl, rfl, fun ⟨_, h⟩ => ⟨Nat.zero_le _, h⟩⟩
theorem stays_setLight (i : Indicator) : Stays c (c.setLight i) := ⟨rfl, rfl, id⟩
theorem stays_setOrder (o : Order) : Stays c (c.setOrder o) := ⟨rfl, rfl, fun ⟨_, h⟩ => ⟨Nat.zero_le _, h⟩⟩
theorem stays_owed (o : Option Owed) : Stays c { c with owed := o } := ⟨rfl, rfl, id⟩
theorem stays_showBike : Stays c c.showBike := ⟨rfl, rfl, id⟩
theorem stays_bikePresent (p : Presence) : Stays c { c with bikePresent := p } := ⟨rfl, rfl, id⟩
theorem stays_unsent (b : Bool) : Stays c { c with unsent := b } := ⟨rfl, rfl, id⟩
theorem stays_mirror (r : Reply) : Stays c (c.mirror r) := ⟨rfl, rfl, fun ⟨h1, _, h⟩ => ⟨h1, Nat.zero_le _, h⟩⟩

theorem stays_closeLatch : Stays c c.closeLatch := by
  unfold DockContext.closeLatch
  split
  · exact stays_setOrder c .relatch
  · exact ⟨rfl, rfl, id⟩

theorem stays_polledOnce : Stays c c.polledOnce := by
  refine ⟨rfl, rfl, fun ⟨h1, h⟩ => ⟨?_, h⟩⟩
  show (if c.order.isSome then min 3 (c.tries + 1) else c.tries) ≤ 3
  split
  · exact Nat.min_le_left _ _
  · exact h1

theorem stays_goSilent : Stays c c.goSilent := ⟨rfl, rfl, fun ⟨_, h⟩ => ⟨Nat.zero_le _, h⟩⟩
theorem stays_clearCounts : Stays c c.clearCounts :=
  ⟨rfl, rfl, fun ⟨h1, _⟩ => ⟨h1, Nat.zero_le _, Nat.zero_le _, Nat.zero_le _⟩⟩

theorem frees_moveTo {st : DockState} (h : st.unnamed = true) : Frees c (c.moveTo st) := by
  obtain ⟨hfree, hpolled⟩ := free_of_unnamed (c := c.moveTo st) h
  exact ⟨hfree, hpolled, rfl, id⟩

/-- A dock moved with its indicator set. -/
theorem frees_moveTo_setLight {st : DockState} (h : st.unnamed = true) (i : Indicator) : Frees c ((c.moveTo st).setLight i) :=
  (frees_moveTo c h).stays (stays_setLight _ i)

theorem frees_fail : Frees c c.fail :=
  (frees_moveTo c rfl).stays ((stays_withdraw _).trans ((stays_setLight _ _).trans (stays_owed _ none)))

theorem frees_goSilent : Frees c (c.goSilent.moveTo .absent) := (stays_goSilent c).frees (frees_moveTo _ rfl)

theorem frees_timeOut (r : Record) : Frees c (c.timeOut r) :=
  (frees_moveTo_setLight c rfl .dark).stays ((stays_setOrder _ .relatch).trans (stays_owed _ _))

theorem frees_relatchHolding : Frees c c.relatchHolding :=
  (stays_setOrder c .relatch).frees (frees_moveTo_setLight _ rfl .dark)

theorem frees_close : Frees c c.close := frees_moveTo_setLight c rfl .dark

theorem serviceState_unnamed : c.serviceState.unnamed = true := by
  unfold DockContext.serviceState
  split
  · rfl
  · split <;> rfl

theorem frees_restore : Frees c c.restore := by
  have hmoved := frees_moveTo_setLight c (serviceState_unnamed c) .dark
  unfold DockContext.restore
  dsimp only
  split
  · exact hmoved.stays (stays_closeLatch _)
  · exact hmoved

theorem frees_abort (st : RecState) : Frees c (c.abort st) := by
  cases st
  · exact frees_moveTo_setLight c rfl _
  · exact (frees_moveTo c rfl).stays ((stays_setOrder _ _).trans (stays_setLight _ _))
  · exact (frees_moveTo c rfl).stays ((stays_setOrder _ _).trans (stays_setLight _ _))

theorem namedBy_grantTo (n : Half) : NamedBy (c.grantTo n) .opening n := ⟨rfl, rfl⟩

theorem ctxCounts_grantTo {c : DockContext} (n : Half) : CtxCounts c → CtxCounts (c.grantTo n) := fun ⟨_, h⟩ => ⟨Nat.zero_le _, h⟩

end

theorem ctx_moves (s : State) (d : DockNo) {f : DockContext → DockContext} (h : ∀ c, Stays c (f c)) : Moves S s (s.modCtx d f) :=
  .ctx s d f (h _)

theorem free_moves {d : DockNo} (hd : (s.ctx d).state.unnamed = true) {f : DockContext → DockContext} (h : ∀ c, Frees c (f c)) :
    Moves S s (s.modCtx d f) := .free s d f (fun _ => ⟨free_of_unnamed hd, h _⟩) (h _).counts

/-! ## Updates that commute -/

theorem offer_modCtx (s : State) (e : Uplink) (d : DockNo) (f : DockContext → DockContext) :
    (s.offer e).modCtx d f = (s.modCtx d f).offer e := by
  unfold State.offer
  rw [modCtx_uplink]
  by_cases h : s.uplink.length < 64
  · rw [if_pos h, if_pos h]
    rfl
  · rw [if_neg h, if_neg h]
    rfl

theorem modRider_modCtx (s : State) (k : Key) (g : RiderEntry → RiderEntry) (d : DockNo) (f : DockContext → DockContext) :
    (s.modRider k g).modCtx d f = (s.modCtx d f).modRider k g := by
  have hway : wayOf ((s.modCtx d f).bucket (bucketOf k)) k = wayOf (s.bucket (bucketOf k)) k := rfl
  unfold State.modRider
  rw [hway]
  cases wayOf (s.bucket (bucketOf k)) k <;> rfl

/-! ## Removal of records (R83, R84) -/

section
variable {r : Record} {f : DockContext → DockContext} {move : State → State}

/-- The last steps of a removal: the record, its dock, the drop-pending test. -/
theorem erase_moves (hr : S → r ∈ s.records) (hf : ∀ c, Frees c (f c)) (hmove : ∀ t, Moves S (t.modCtx r.dock f) (move t)) :
    Moves S s ((move (s.eraseRecord r.number)).dropTest r.rider) :=
  (Moves.remove s r f hr (hf _)).trans ((hmove _).trans (dropTest_moves _ _))

theorem removeRecord_moves (hr : S → r ∈ s.records) (refund : Bool) (report : Option (RelOutcome × ReportDetail))
    (hf : ∀ c, Frees c (f c)) (hmove : ∀ t, Moves S (t.modCtx r.dock f) (move t)) :
    Moves S s (s.removeRecord r refund report move) := by
  have hrefund : r ∈ (s.refundFor r).records ↔ r ∈ s.records := by rw [refundFor_records]
  have hoffer : ∀ (t : State) (e : Uplink), r ∈ (t.offer e).records ↔ r ∈ t.records := fun t e => by rw [offer_records]
  cases refund <;> rcases report with _ | ⟨outcome, detail⟩
  · exact erase_moves hr hf hmove
  · exact (offer_moves s _).trans (erase_moves (fun h => (hoffer _ _).2 (hr h)) hf hmove)
  · exact (refundFor_moves s r).trans (erase_moves (fun h => hrefund.2 (hr h)) hf hmove)
  · exact (refundFor_moves s r).trans ((offer_moves _ _).trans
      (erase_moves (fun h => (hoffer _ _).2 (hrefund.2 (hr h))) hf hmove))

theorem recordAt_some {d : DockNo} (h : s.recordAt d = some r) : r ∈ s.records ∧ r.dock = d :=
  ⟨List.mem_of_find?_eq_some h, by simpa using List.find?_some h⟩

/-- A held dock has its record. -/
theorem recordAt_ne_none {d : DockNo} (h : RecordsMatchDocks s) (hd : Held (s.ctx d)) : s.recordAt d ≠ none := by
  obtain ⟨-, -, -, -, hnamed, -⟩ := h
  obtain ⟨r, hr, hrd⟩ := hnamed d hd
  exact fun hn => absurd (by simpa using hrd) (List.find?_eq_none.1 hn r hr)

/-- The removal of the record at a dock that a record names. -/
theorem removeAt_goes {d : DockNo} (hd : Held (s.ctx d)) (refund : Bool) (report : Option (RelOutcome × ReportDetail))
    (hf : ∀ c, Frees c (f c)) (hmove : ∀ t, Moves S (t.modCtx d f) (move t)) :
    Goes S s (s.removeAt d refund report move) := fun hs => by
  unfold State.removeAt
  split
  · next r hr =>
    obtain ⟨hm, rfl⟩ := recordAt_some hr
    exact removeRecord_moves (fun _ => hm) refund report hf hmove
  · next hn =>
    refine (Moves.free s d f (fun hS => ?_) (hf _).counts).trans (hmove s)
    exact absurd hn (recordAt_ne_none (hs hS).docks hd)

end

/-! ## Grants and settlements of referred records (R87, R90, R109) -/

/-- A grant of a referred record is the record brought to OPENING with its dock, then the rider's entry. -/
theorem grantReferred_moves {r : Record} (hr : S → r ∈ s.records) (src : Source) : Moves S s (s.grantReferred r src) := by
  unfold State.grantReferred
  dsimp only
  rw [modRider_modCtx]
  refine Moves.trans (.advance s r (fun x => x.granted src (s.lookup (r.rider.getD 0)).isSome) _ hr (fun _ => rfl)
    (fun _ => rfl) (fun _ h => by cases h) (fun _ => ⟨rfl, rfl⟩) (fun _ h => by cases h) (fun _ hcounted => ?_) (fun _ => namedBy_grantTo _ _) (ctxCounts_grantTo _))
    (rider_moves _ _ fun e => recounts_granted e _)
  have hsome : (s.lookup (r.rider.getD 0)).isSome = true := hcounted
  cases hk : r.rider with
  | none =>
    rw [hk] at hsome
    exact absurd rfl (lookup_isSome_iff.1 hsome).1
  | some k => exact ⟨k, hk, by rw [hk] at hsome; exact hsome⟩

theorem settleRefused_moves {r : Record} (hr : S → r ∈ s.records) (reason : Reason) : Moves S s (s.settleRefused r reason) :=
  removeRecord_moves hr false _ (fun c => frees_moveTo_setLight c rfl _) fun _ => .refl _

theorem createProvisional_records {k : Key} {cls : Fin 4} {seq : Half} (h : s.createProvisional k cls seq = some t) :
    t.records = s.records := insertRider_keeps State.records (fun _ _ => rfl) h

theorem settleGranted_moves {r : Record} (hr : S → r ∈ s.records) (k : Key) (c : Fin 4) : Moves S s (s.settleGranted r k c) := by
  unfold State.settleGranted
  split
  · next hnew =>
    split
    · next t ht =>
      exact (createProvisional_moves ht (by simpa using hnew.1)).trans
        (grantReferred_moves (fun h => by rw [createProvisional_records ht]; exact hr h) _)
    · exact settleRefused_moves hr _
  · exact grantReferred_moves hr _

theorem settle_moves {r : Record} (hr : S → r ∈ s.records) : Moves S s (s.settle r) := by
  unfold State.settle
  split
  · split
    · exact settleGranted_moves hr _ _
    · exact settleRefused_moves hr _
  · exact settleRefused_moves hr _

end Sys2Proof.Machine
end

section
/-! Taps and dock replies as moves: the Admission Unit (chapter 4) and the Dock Contexts (chapter 3). -/

namespace Sys2Proof.Machine

variable {S : Prop} {s t : State} {d : DockNo}

/-! ## Refusals (R79) -/

theorem refuseQuiet_moves (s : State) (d : DockNo) (r : Reason) : Moves S s (s.refuseQuiet d r) :=
  ctx_moves s d fun _ => ⟨rfl, rfl, fun ⟨h1, h2, h3, _⟩ => ⟨h1, h2, h3, Nat.min_le_left _ _⟩⟩

theorem refuseReported_moves (s : State) (d : DockNo) (r : Reason) (rider : Key) (seq : Half) (cond : Option (Fin 4)) :
    Moves S s (s.refuseReported d r rider seq cond) := offers_moves (ctx_moves s d fun c => stays_setLight c _) _

/-! ## Grants and referrals of a tap (R76 to R78) -/

/-- A tap that has passed the dock gate with room in the Release List, its rider known exactly when the table holds an entry
(R65, R66). -/
structure Admitted (s : State) (t : Tap) : Prop where
  dock : (s.ctx t.dock).state.unnamed = true
  room : s.records.length < 16
  known : t.known.isSome = (s.lookup t.rider).isSome

theorem countGrant_moves (s : State) (src : Source) : Moves S s (s.countGrant src) := by
  unfold State.countGrant
  split
  · exact .plain (by constructor <;> rfl)
      fun ⟨h1, h2, h3, h4, h5, h6, h7, _, h⟩ => ⟨h1, h2, h3, h4, h5, h6, h7, Nat.min_le_left _ _, h⟩
  · exact .refl s

theorem grantTap_moves {x : Tap} (hdock : (s.ctx x.dock).state.unnamed = true) (hroom : s.records.length < 16)
    (hrider : (s.lookup x.rider).isSome = true) (src : Source) (cond : Fin 4) : Moves S s (s.grantTap x src cond) := by
  unfold State.grantTap
  rw [modRider_modCtx]
  refine Moves.trans (.add s (grantRecord s x src cond) _ rfl hroom (fun _ => free_of_unnamed hdock) ⟨rfl, rfl⟩ (fun _ => rfl)
    (fun _ => ⟨x.rider, rfl, hrider⟩) (fun h => by cases h) (namedBy_grantTo _ _) (ctxCounts_grantTo _))
    (rider_moves _ _ fun e => recounts_grantedTap e _ _)

theorem referTap_moves {x : Tap} (hdock : (s.ctx x.dock).state.unnamed = true) (hroom : s.records.length < 16)
    (honline : s.condition = .online) (cond : Fin 4) : Moves S s (s.referTap x cond) := by
  unfold State.referTap
  rw [offer_modCtx]
  exact offers_moves (.add s (referRecord s x cond) _ rfl hroom (fun _ => free_of_unnamed hdock)
    ⟨rfl, rfl, rfl, rfl, rfl, _, rfl⟩ (fun h => by cases h) (fun h => by cases h) (fun _ => honline) ⟨rfl, rfl⟩ id) _

/-- Condition code 2 is that of a rider without an entry (R72). -/
theorem conditionCode_eq_two_iff (known : Option RiderEntry) (row : ClassRow) :
    conditionCode known row = 2 ↔ known.isSome = false := by
  unfold conditionCode
  cases known with
  | none => simp
  | some e =>
    dsimp only
    split
    · simp
    · split <;> simp

theorem grantOrFull_moves {x : Tap} (h : Admitted s x) (src : Source) {cond : Fin 4} (hcond : cond = 2 ↔ x.known.isSome = false) :
    Moves S s (s.grantOrFull x src cond) := by
  have hknown := h.known
  unfold State.grantOrFull
  split
  · next h2 =>
    have habsent : s.lookup x.rider = none := by
      rw [hcond.1 h2] at hknown
      simpa using hknown.symm
    split
    · next t ht =>
      have hctx : (t.ctx x.dock).state.unnamed = true := by
        rw [ctx_congr (insertRider_keeps State.ctxs (fun _ _ => rfl) ht)]
        exact h.dock
      have hlook : t.lookup x.rider = some _ := (lookup_insertRider ht habsent).1
      exact (createProvisional_moves ht habsent).trans ((grantTap_moves hctx (by rw [createProvisional_records ht]; exact h.room)
        (by rw [hlook]; rfl) src cond).trans (countGrant_moves _ src))
    · exact refuseReported_moves ..
  · next h2 =>
    have hsome : (s.lookup x.rider).isSome = true := by
      rw [← hknown]
      exact Bool.of_not_eq_false fun hn => h2 (hcond.2 hn)
    exact (grantTap_moves h.dock h.room hsome src cond).trans (countGrant_moves _ src)

/-! ## Steps 8 to 15 of a tap (R68 to R75) -/

theorem byIslandedMask_moves {x : Tap} (h : Admitted s x) {cond : Fin 4} (hcond : cond = 2 ↔ x.known.isSome = false) :
    Moves S s (s.byIslandedMask x cond) := by
  unfold State.byIslandedMask
  split
  · exact grantOrFull_moves h _ hcond
  · exact refuseReported_moves ..

theorem online_of_not_islanded (h : s.isIslanded = false) : s.condition = .online := by
  cases hc : s.condition with
  | online => rfl
  | islanded => simp [State.isIslanded, hc] at h

theorem decideTap_moves {x : Tap} (h : Admitted s x) {cond : Fin 4} (hcond : cond = 2 ↔ x.known.isSome = false) :
    Moves S s (s.decideTap x cond) := by
  unfold State.decideTap
  split
  · split
    · next hon =>
      simp only [Bool.and_eq_true, Bool.not_eq_true'] at hon
      exact referTap_moves h.dock h.room (online_of_not_islanded hon.1) cond
    · exact refuseReported_moves ..
  · split
    · exact byIslandedMask_moves h hcond
    · next hon =>
      split
      · exact grantOrFull_moves h _ hcond
      · split
        · exact referTap_moves h.dock h.room (online_of_not_islanded (by simpa using hon)) cond
        · exact byIslandedMask_moves h hcond

theorem classTap_moves {x : Tap} (h : Admitted s x) : Moves S s (s.classTap x) := by
  unfold State.classTap
  split
  · exact refuseReported_moves ..
  · split
    · exact refuseReported_moves ..
    · split
      · exact refuseReported_moves ..
      · exact decideTap_moves h (conditionCode_eq_two_iff _ _)

/-- The window that an accepted sequence leaves is kept at the rider's entry (R25, R26). -/
theorem setWindow_moves {k : Key} {e : RiderEntry} (he : s.lookup k = some e) {n top : Half} {used : List Half}
    (hj : judgeSeq e.top e.used n = .accepted top used) : Moves S s (s.modRider k fun e => e.setWindow top used) := by
  refine .rider s k _ (fun _ => rfl) fun e' he' => ?_
  obtain rfl : e = e' := by simpa [he] using he'
  exact fun ⟨hk, ha, hb, hw⟩ => ⟨hk, ha, hb, windowSound_judgeSeq hw hj⟩

theorem riderTap_moves (hdock : (s.ctx d).state.unnamed = true) (hroom : s.records.length < 16) (x : Token) (unchecked : Bool) :
    Moves S s (s.riderTap d x unchecked) := by
  unfold State.riderTap
  split
  · exact refuseReported_moves ..
  · split
    · next hn => exact classTap_moves ⟨hdock, hroom, by simp [hn]⟩
    · next e he =>
      split
      · exact refuseReported_moves ..
      · split
        · exact refuseReported_moves ..
        · exact refuseReported_moves ..
        · next top used hj =>
          refine (setWindow_moves he hj).trans (classTap_moves ⟨by simpa using hdock, by simpa using hroom, ?_⟩)
          rw [lookup_modRider s x.rider (fun e => e.setWindow top used) fun _ => rfl]
          simp [he]

/-- The dock gate lets a tap through at a HOLDING dock alone (R65). -/
theorem gateRefusal_none (h : s.gateRefusal d = none) : (s.ctx d).state.unnamed = true := by
  unfold State.gateRefusal at h
  split at h
  · cases h
  · cases hst : (s.ctx d).state <;> simp only [hst, reduceCtorEq] at h
    rfl

theorem admitTap_moves (s : State) (d : DockNo) (x : Token) : Moves S s (s.admitTap d x) := by
  unfold State.admitTap
  split
  · exact refuseQuiet_moves ..
  · next hgate =>
    split
    · exact refuseQuiet_moves ..
    · next hfull =>
      have hroom : s.records.length < 16 := by simpa [State.listFull] using hfull
      split
      · split
        · exact refuseReported_moves ..
        · exact refuseQuiet_moves ..
      · exact riderTap_moves (gateRefusal_none hgate) hroom x _

/-! ## Lift and arrival at the dock (R47, R48) -/

theorem lateLift_moves (s : State) (d : DockNo) (o : Owed) : Moves S s (s.lateLift d o) := by
  unfold State.lateLift
  split
  · exact offers_moves (rider_moves s _ fun e => recounts_lateLift e _) _
  · exact offer_moves s _

theorem lateLiftAt_moves (s : State) (d : DockNo) (o : Owed) : Moves S s (s.lateLiftAt d o) :=
  (lateLift_moves s d o).trans (ctx_moves _ d fun c => (stays_withdraw c).trans (stays_owed _ none))

theorem lateLiftAt_state (s : State) (d : DockNo) (o : Owed) : ((s.lateLiftAt d o).ctx d).state = (s.ctx d).state := by
  have hlift : (s.lateLift d o).ctx d = s.ctx d := by
    unfold State.lateLift
    split <;> simp
  rw [State.lateLiftAt, ctx_modCtx_self, hlift]
  rfl

theorem tellIf_moves (s : State) (d : DockNo) (p : Prop) [Decidable p] (e : DockEvent) :
    Moves S s (if p then s.tellDock d e else s) := by
  split
  · exact tellDock_moves s d e
  · exact .refl s

theorem held_checking (h : (s.ctx d).state = .checking) : Held (s.ctx d) := .inl h
theorem held_opening (h : (s.ctx d).state = .opening) : Held (s.ctx d) := .inr (.inl h)
theorem held_opened (h : (s.ctx d).state = .opened) : Held (s.ctx d) := .inr (.inr h)

theorem tellDock_state (s : State) (d : DockNo) (e : DockEvent) : ((s.tellDock d e).ctx d).state = (s.ctx d).state := by
  rw [State.tellDock, offer_ctx]

theorem unnamed_of_eq {st : DockState} (h : (s.ctx d).state = st) (hst : st.unnamed = true) : (s.ctx d).state.unnamed = true := by
  rw [h]
  exact hst

theorem liftAt_goes (s : State) (d : DockNo) (before : Presence) : Goes S s (s.liftAt d before) := by
  unfold State.liftAt
  split
  · next h =>
    split
    · next o _ =>
      refine ((lateLiftAt_moves s d o).trans (free_moves ?_ fun c => frees_moveTo_setLight c rfl .dark)).goes
      rw [lateLiftAt_state]
      exact unnamed_of_eq h rfl
    · refine ((tellDock_moves s d _).trans (free_moves ?_ fun c => (stays_withdraw c).frees (frees_moveTo_setLight _ rfl .dark))).goes
      rw [tellDock_state]
      exact unnamed_of_eq h rfl
  · next h =>
    refine removeAt_goes (f := fun c => (c.moveTo .vacant).setLight .dark) (held_checking h) false _
      (fun c => frees_moveTo_setLight c rfl .dark) fun t => ?_
    rw [State.tellDock, offer_modCtx]
    exact offer_moves _ _
  · next h =>
    exact removeAt_goes (held_opening h) false _ (fun c => (stays_withdraw c).frees (frees_moveTo_setLight _ rfl .dark)) fun t => .refl _
  · next h => exact removeAt_goes (held_opened h) false _ (fun c => frees_moveTo_setLight c rfl .dark) fun t => .refl _
  · split
    · exact (lateLiftAt_moves s d _).goes
    · exact ((tellIf_moves s d _ _).trans (ctx_moves _ d stays_withdraw)).goes
  · exact ((tellIf_moves s d _ _).trans (ctx_moves _ d stays_withdraw)).goes
  all_goals exact .refl s

theorem reseatAt_goes (h : (s.ctx d).state = .opened) : Goes S s (s.reseatAt d) :=
  removeAt_goes (held_opened h) true _ (fun c => frees_moveTo_setLight c rfl .dark) fun _ => .refl _

theorem arriveAt_moves (s : State) (d : DockNo) (bikeId : Option Word) : Moves S s (s.arriveAt d bikeId) := by
  unfold State.arriveAt
  split
  · next h =>
    refine (tellDock_moves s d _).trans (free_moves ?_ fun c => (stays_showBike c).frees (frees_moveTo_setLight _ rfl .dark))
    rw [tellDock_state]
    exact unnamed_of_eq h rfl
  · exact (tellDock_moves s d _).trans (ctx_moves _ d stays_showBike)
  · exact (tellDock_moves s d _).trans (ctx_moves _ d stays_showBike)
  all_goals exact .refl s

/-! ## A good reply (R45, R46, R51, R55, R56) -/

theorem presenceAt_moves (s : State) (d : DockNo) (r : Reply) : Moves S s (s.presenceAt d r) := by
  unfold State.presenceAt
  dsimp only
  split
  · next h =>
    have hto : (if r.bike then DockState.holding else .vacant).unnamed = true := by cases r.bike <;> rfl
    refine (tellDock_moves s d _).trans (free_moves ?_ fun c => frees_moveTo_setLight c hto .dark)
    rw [tellDock_state]
    rcases h with h | h <;> exact unnamed_of_eq h rfl
  · split
    · exact tellDock_moves s d _
    · exact .refl s

theorem statusAt_goes (s : State) (d : DockNo) (r : Reply) (before : Presence) : Goes S s (s.statusAt d r before) := by
  unfold State.statusAt
  split
  · split
    · next h =>
      split
      · exact reseatAt_goes h
      · exact .refl s
    · split
      · exact (arriveAt_moves s d _).goes
      · exact .refl s
  · split
    · exact liftAt_goes s d before
    · exact .refl s

theorem replyStatus_goes (s : State) (d : DockNo) (r : Reply) : Goes S s (s.replyStatus d r) :=
  (presenceAt_moves s d r).goes.trans ((statusAt_goes _ d r _).trans
    (ctx_moves _ d fun c => (stays_mirror c r).trans (stays_closeLatch _)).goes)

/-- The acknowledged UNLATCH of an OPENING dock brings its record to OPEN (R93). -/
theorem openRecordAt_goes (h : (s.ctx d).state = .opening) :
    Goes S s ((s.openRecordAt d).modCtx d fun c => { c.withdraw with state := .opened }) := fun hs => by
  have hcounts : ∀ c : DockContext, CtxCounts c → CtxCounts { c.withdraw with state := .opened } :=
    fun c ⟨_, hc⟩ => ⟨Nat.zero_le _, hc⟩
  cases hrec : s.recordAt d with
  | some r =>
    obtain ⟨hr, rfl⟩ := recordAt_some hrec
    have hstate : S → r.state = .opening := fun hS => by
      have hmatch := state_of_record (hs hS).docks hr
      rw [h] at hmatch
      cases hst : r.state <;> simp [hst, stateOfRecord] at hmatch
      rfl
    have hsound : S → RecordSound r := fun hS => (hs hS).2.1 r hr
    have hcounted : S → (r.charged = true → r.counted = true) ∧ (r.counted = true → ∃ k, r.rider = some k ∧
        (s.lookup k).isSome = true) := fun hS => (hs hS).2.2 r hr
    simp only [State.openRecordAt, hrec]
    refine .advance s r (fun r => r.openUp (s.params.liftTimeout * 10)) _ (fun _ => hr) (fun _ => rfl) (fun _ => rfl)
      (fun _ hx => by cases hx) (fun hS => ?_) (fun hS => (hcounted hS).1) (fun hS => (hcounted hS).2) (fun hS => ⟨rfl, ?_⟩) (hcounts _)
    · have := hsound hS
      rw [RecordSound, hstate hS] at this
      exact ⟨this.1, _, rfl⟩
    · exact ((hs hS).docks.2.2.2.1 r hr).2
  | none =>
    simp only [State.openRecordAt, hrec]
    exact .free s d _ (fun hS => absurd hrec (recordAt_ne_none (hs hS).docks (held_opening h))) (hcounts _)

end Sys2Proof.Machine
end

section
/-! Replies, misses, orders, verdicts, timers, the Islanding Monitor and the runtime reset as moves (chapters 3, 5, 6). -/

namespace Sys2Proof.Machine

variable {S : Prop} {s t : State} {d : DockNo}

/-! ## The rest of a good reply (R45, R51, R55, R56) -/

theorem replyAck_goes (s : State) (d : DockNo) (r : Reply) : Goes S s (s.replyAck d r) := by
  unfold State.replyAck
  dsimp only
  split
  · split
    · exact .refl s
    · exact (ctx_moves s d fun c => (stays_withdraw c).trans (stays_owed _ none)).goes
    · split
      · next h => exact openRecordAt_goes h
      · exact (ctx_moves s d stays_withdraw).goes
  · exact .refl s

theorem liftEvent_goes (s : State) (d : DockNo) (before : Presence) : Goes S s (s.liftEvent d before) := by
  unfold State.liftEvent
  split
  · exact .refl s
  · exact (liftAt_goes s d before).trans (ctx_moves _ d fun c => stays_bikePresent c _).goes

theorem dockedEvent_goes (s : State) (d : DockNo) (r : Reply) (before : Presence) : Goes S s (s.dockedEvent d r before) := by
  unfold State.dockedEvent
  split
  · next h => exact reseatAt_goes h
  · split
    · exact .refl s
    · exact (arriveAt_moves s d _).goes

/-- A record removed from a dock that fails. -/
theorem removeAt_fail_goes (h : Held (s.ctx d)) (refund : Bool) (report : Option (RelOutcome × ReportDetail)) :
    Goes S s (s.removeAt d refund report fun t => t.modCtx d DockContext.fail) :=
  removeAt_goes h refund report frees_fail fun _ => .refl _

theorem faultEvent_goes (s : State) (d : DockNo) (code : Byte) : Goes S s (s.faultEvent d code) := by
  unfold State.faultEvent
  dsimp only
  refine (tellDock_moves s d (.headFault code)).goes.trans ?_
  split
  · next h => exact removeAt_fail_goes (held_checking h) _ _
  · next h => exact removeAt_fail_goes (held_opening h) _ _
  · next h => exact removeAt_fail_goes (held_opened h) _ _
  · next h => exact (free_moves (unnamed_of_eq h rfl) frees_fail).goes
  · next h => exact (free_moves (unnamed_of_eq h rfl) frees_fail).goes
  all_goals exact .refl _

theorem replyEvent_goes (s : State) (d : DockNo) (r : Reply) (before : Presence) : Goes S s (s.replyEvent d r before) := by
  unfold State.replyEvent
  split
  · exact .refl s
  · exact (admitTap_moves s d _).goes
  · exact liftEvent_goes s d before
  · exact dockedEvent_goes s d r before
  · exact faultEvent_goes s d _

theorem takeReply_goes (s : State) (d : DockNo) (r : Reply) : Goes S s (s.takeReply d r) :=
  (replyStatus_goes s d r).trans ((replyAck_goes _ d r).trans (replyEvent_goes _ d r _))

/-! ## Misses and failed orders (R49, R52) -/

theorem removeAt_absent_goes (h : Held (s.ctx d)) (refund : Bool) (report : Option (RelOutcome × ReportDetail)) :
    Goes S s ((s.removeAt d refund report fun t => t.modCtx d fun c => c.goSilent.moveTo .absent).tellDock d .absent) :=
  (removeAt_goes h refund report frees_goSilent fun _ => .refl _).trans (tellDock_moves _ d _).goes

theorem goAbsent_goes (h : (s.ctx d).state.unnamed = true) :
    Goes S s ((s.modCtx d fun c => c.goSilent.moveTo .absent).tellDock d .absent) :=
  ((free_moves h frees_goSilent).trans (tellDock_moves _ d _)).goes

theorem eighthMiss_goes (s : State) (d : DockNo) : Goes S s (s.eighthMiss d) := by
  unfold State.eighthMiss
  split
  · next h => exact removeAt_absent_goes (held_checking h) _ _
  · next h => exact removeAt_absent_goes (held_opening h) _ _
  · next h => exact removeAt_absent_goes (held_opened h) _ _
  · next h => exact goAbsent_goes (unnamed_of_eq h rfl)
  · next h => exact goAbsent_goes (unnamed_of_eq h rfl)
  · next h => exact goAbsent_goes (unnamed_of_eq h rfl)
  · exact ((ctx_moves s d stays_goSilent).trans (tellDock_moves _ d _)).goes
  · exact ((ctx_moves s d stays_goSilent).trans (tellDock_moves _ d _)).goes
  · exact .refl s
  · exact .refl s

theorem takeMiss_goes (s : State) (d : DockNo) : Goes S s (s.takeMiss d) := by
  unfold State.takeMiss
  split
  · refine (ctx_moves s d fun c => ?_).goes.trans (eighthMiss_goes _ d)
    exact ⟨rfl, rfl, fun ⟨h1, _, h⟩ => ⟨h1, Nat.le_refl 8, h⟩⟩
  · exact Moves.goes (ctx_moves s d fun c => ⟨rfl, rfl, fun ⟨h1, _, h⟩ => ⟨h1, Nat.min_le_left _ _, h⟩⟩)

theorem orderFailed_goes (s : State) (d : DockNo) : Goes S s (s.orderFailed d) := by
  unfold State.orderFailed
  split
  · next h => exact removeAt_fail_goes (held_opening h) _ _
  · next h => exact (free_moves (unnamed_of_eq h rfl) frees_fail).goes
  · next h => exact (free_moves (unnamed_of_eq h rfl) frees_fail).goes
  · next h => exact (free_moves (unnamed_of_eq h rfl) frees_fail).goes
  · next h => exact (free_moves (unnamed_of_eq h rfl) frees_fail).goes
  · exact (ctx_moves s d stays_withdraw).goes
  · exact .refl s

theorem countCrc_moves (s : State) (d : DockNo) : Moves S s (s.countCrc d) :=
  ctx_moves s d fun _ => ⟨rfl, rfl, fun ⟨h1, h2, _, h⟩ => ⟨h1, h2, Nat.min_le_left _ _, h⟩⟩

theorem tryTest_goes (s : State) (d : DockNo) (carried : Option Byte) : Goes S s (s.tryTest d carried) := by
  unfold State.tryTest
  split
  · exact orderFailed_goes s d
  · exact .refl s

/-! ## Dock orders (3.8) -/

theorem releaseDone_moves (hdock : (s.ctx d).state.unnamed = true) (hroom : s.records.length < 16) :
    Moves S s (s.releaseDone d) :=
  .add s (remoteRecord s d) _ rfl hroom (fun _ => free_of_unnamed hdock) ⟨rfl, rfl⟩ (fun h => by cases h) (fun h => by cases h)
    (fun h => by cases h) (namedBy_grantTo _ _) (ctxCounts_grantTo _)

theorem orderRelease_moves (s : State) (d : DockNo) : Moves S s (s.orderRelease d).after := by
  unfold State.orderRelease
  split
  · exact .refl s
  · next hrel =>
    split
    · exact .refl s
    · next hfull =>
      simp only [State.releasable, Bool.not_eq_false, Bool.and_eq_true, beq_iff_eq] at hrel
      exact releaseDone_moves (unnamed_of_eq hrel.1 rfl) (by simpa [State.listFull] using hfull)

theorem orderRelatch_goes (s : State) (d : DockNo) : Goes S s (s.orderRelatch d).after := by
  unfold State.orderRelatch
  split
  · next h => exact removeAt_goes (h.elim held_opening held_opened) true _ frees_relatchHolding fun _ => .refl _
  · exact .refl s

theorem closeWithdraw_goes (h : Held (s.ctx d)) : Goes S s (s.closeWithdraw d) :=
  removeAt_goes h true _ (fun c => (stays_setOrder c .relatch).frees (frees_close _)) fun _ => .refl _

theorem closeChecking_goes (h : Held (s.ctx d)) : Goes S s (s.closeChecking d) :=
  removeAt_goes h false _ (fun c => (stays_setLight c _).frees (frees_close _)) fun _ => .refl _

theorem orderOutOfService_goes (s : State) (d : DockNo) : Goes S s (s.orderOutOfService d).after := by
  unfold State.orderOutOfService
  dsimp only
  split
  · next h => exact closeChecking_goes (held_checking h)
  · next h => exact closeWithdraw_goes (held_opening h)
  · next h => exact closeWithdraw_goes (held_opened h)
  · exact .refl s
  all_goals
    next h => exact (free_moves (unnamed_of_eq h rfl) frees_close).goes

theorem orderInService_moves (s : State) (d : DockNo) : Moves S s (s.orderInService d).after := by
  unfold State.orderInService
  split
  · next h => exact free_moves (h.elim (fun h => unnamed_of_eq h rfl) fun h => unnamed_of_eq h rfl) frees_restore
  · exact .refl s

theorem orderAt_goes (s : State) (d : DockNo) (a : OrderAction) : Goes S s (s.orderAt d a).after := by
  unfold State.orderAt
  split
  · exact .refl s
  · cases a
    · exact (orderRelease_moves s d).goes
    · exact orderRelatch_goes s d
    · exact orderOutOfService_goes s d
    · exact (orderInService_moves s d).goes

theorem takeDockOrder_goes (body : List Byte) (s : State) : Goes S s (takeDockOrder body s) := by
  unfold takeDockOrder
  dsimp only
  split
  · exact (offer_moves s _).goes
  · split
    · exact (offer_moves s _).goes
    · exact (orderAt_goes s _ _).trans (offer_moves _ _).goes

/-! ## Verdicts and record timers (R86 to R96) -/

theorem applyAllowance_moves (v : Verdict) (s : State) : Moves S s (v.applyAllowance s) := by
  unfold Verdict.applyAllowance
  split
  · exact rider_moves s _ fun e => recounts_setAllowance e _
  · exact .refl s

theorem applyAllowance_records (v : Verdict) (s : State) : (v.applyAllowance s).records = s.records := by
  unfold Verdict.applyAllowance
  split <;> simp

theorem takeVerdict_moves (body : List Byte) (s : State) : Moves S s (takeVerdict body s) := by
  unfold takeVerdict
  dsimp only
  split
  · exact offer_moves s _
  · next r hr =>
    have hm : r ∈ ((verdictOf body).applyAllowance s).records := by
      rw [applyAllowance_records]
      exact List.mem_of_find?_eq_some hr
    refine (applyAllowance_moves (verdictOf body) s).trans ?_
    split
    · exact grantReferred_moves (fun _ => hm) _
    · exact removeRecord_moves (fun _ => hm) false none (fun c => frees_moveTo_setLight c rfl _) fun _ => .refl _

theorem takeReferralExpiry_moves (n : Half) (s : State) : Moves S s (takeReferralExpiry n s) := by
  unfold takeReferralExpiry
  split
  · next r hr =>
    split
    · exact settle_moves fun _ => List.mem_of_find?_eq_some hr
    · exact .refl s
  · exact .refl s

theorem takeLiftExpiry_moves (n : Half) (s : State) : Moves S s (takeLiftExpiry n s) := by
  unfold takeLiftExpiry
  split
  · next r hr =>
    split
    · exact removeRecord_moves (fun _ => List.mem_of_find?_eq_some hr) true _ (fun c => frees_timeOut c r) fun _ => .refl _
    · exact .refl s
  · exact .refl s

/-! ## Every record in turn (R104, R109) -/

/-- Operations on records of different numbers, one after the other, each of which leaves the records of other numbers. -/
theorem foldl_moves {act : State → Record → State} (hact : ∀ s r, (S → r ∈ s.records) → Moves S s (act s r))
    (hkeep : ∀ s r x, x ∈ s.records → x.number ≠ r.number → x ∈ (act s r).records) : ∀ (l : List Record) (s : State),
    (S → (∀ r ∈ l, r ∈ s.records) ∧ (l.map Record.number).Nodup) → Moves S s (l.foldl act s)
  | [], s, _ => .refl s
  | r :: rest, s, h => by
    refine (hact s r fun hS => (h hS).1 r List.mem_cons_self).trans (foldl_moves hact hkeep rest _ fun hS => ?_)
    obtain ⟨hmem, hnodup⟩ := h hS
    obtain ⟨hr, hrest⟩ := List.nodup_cons.1 hnodup
    exact ⟨fun x hx => hkeep s r x (hmem x (List.mem_cons_of_mem _ hx)) fun hn => hr (hn ▸ List.mem_map_of_mem hx), hrest⟩

theorem removeRecord_records {r : Record} {refund : Bool} {report : Option (RelOutcome × ReportDetail)} {move : State → State}
    (hmove : ∀ t, (move t).records = t.records) : (s.removeRecord r refund report move).records = (s.eraseRecord r.number).records := by
  unfold State.removeRecord
  cases refund <;> rcases report with _ | ⟨outcome, detail⟩ <;> simp [hmove, State.eraseRecord]

/-- What a settlement leaves of the records: the settled one is removed, or granted in its place. -/
theorem settle_records (s : State) (r : Record) : (s.settle r).records = (s.eraseRecord r.number).records ∨
    ∃ g : Record → Record, (∀ x, (g x).state = .opening) ∧ (s.settle r).records = (s.modRecord r.number g).records := by
  have hrefused : ∀ reason, (s.settleRefused r reason).records = (s.eraseRecord r.number).records :=
    fun _ => removeRecord_records fun _ => rfl
  have hgranted : ∀ t : State, t.records = s.records → ∃ g : Record → Record, (∀ x, (g x).state = .opening) ∧
      (t.grantReferred r .fallback).records = (s.modRecord r.number g).records := fun t ht =>
    ⟨fun x => x.granted .fallback (t.lookup (r.rider.getD 0)).isSome, fun _ => rfl, by
      simp [State.grantReferred, State.modRecord, ht]⟩
  unfold State.settle State.settleGranted
  split
  · split
    · split
      · split
        · next t ht => exact .inr (hgranted t (createProvisional_records ht))
        · exact .inl (hrefused _)
      · exact .inr (hgranted s rfl)
    · exact .inl (hrefused _)
  · exact .inl (hrefused _)

theorem mem_settle {r x : Record} (hx : x ∈ s.records) (hn : x.number ≠ r.number) : x ∈ (s.settle r).records := by
  rcases settle_records s r with h | ⟨g, -, h⟩ <;> rw [h]
  · exact mem_eraseRecord.2 ⟨hx, hn⟩
  · exact mem_modRecord.2 ⟨x, hx, if_neg hn⟩

/-- A record that is REFERRED after a settlement was so before, and is not the settled one. -/
theorem referred_of_settle {r x : Record} (hx : x ∈ (s.settle r).records) (href : x.state = .referred) :
    x ∈ s.records ∧ x.number ≠ r.number := by
  rcases settle_records s r with h | ⟨g, hg, h⟩ <;> rw [h] at hx
  · exact mem_eraseRecord.1 hx
  · obtain ⟨y, hy, rfl⟩ := mem_modRecord.1 hx
    split at href
    · simp [hg] at href
    · next hn => rw [if_neg hn]; exact ⟨hy, hn⟩

theorem referred_of_settle_foldl {x : Record} (href : x.state = .referred) : ∀ (l : List Record) (s : State),
    x ∈ (l.foldl (fun s r => s.settle r) s).records → x ∈ s.records ∧ ∀ r ∈ l, x.number ≠ r.number
  | [], s, hx => ⟨hx, fun r hr => by cases hr⟩
  | r :: rest, s, hx => by
    obtain ⟨hmem, hrest⟩ := referred_of_settle_foldl href rest _ hx
    obtain ⟨hm, hn⟩ := referred_of_settle hmem href
    refine ⟨hm, fun y hy => ?_⟩
    rcases List.mem_cons.1 hy with rfl | hy
    · exact hn
    · exact hrest y hy

/-- After the settlement of every REFERRED record none is left (R109). -/
theorem settleAll_none_referred (s : State) : ∀ x ∈ s.settleAll.records, x.state ≠ .referred := fun x hx href => by
  obtain ⟨hm, hn⟩ := referred_of_settle_foldl href _ s hx
  exact hn x (List.mem_filter.2 ⟨hm, by simp [href]⟩) rfl

theorem settleAll_goes (s : State) : Goes S s s.settleAll := fun hs =>
  foldl_moves (fun _ _ => settle_moves) (fun _ _ _ => mem_settle) _ s fun hS =>
    ⟨fun _ hr => (List.mem_filter.1 hr).1, (hs hS).docks.2.1.sublist (List.filter_sublist.map _)⟩

/-! ## The Islanding Monitor (R106 to R114) -/

theorem markClosed_moves (s : State) : Moves S s s.markClosed := by
  refine .ctxs s _ fun d => ?_
  split
  · exact stays_unsent _ true
  · exact ⟨rfl, rfl, id⟩

theorem takePresenceExpiry_goes (s : State) : Goes S s (takePresenceExpiry s) := by
  unfold takePresenceExpiry
  split
  · intro hs
    have hisl : S → ReleasesSound s.goIslanded := hs
    exact .islanded (((settleAll_goes s.goIslanded) hisl).trans (markClosed_moves _)) fun x hx =>
      settleAll_none_referred s.goIslanded x hx
  · exact .refl s

theorem startPresence_moves (h : s.condition = .online) : Moves S s s.startPresence := by
  have heq : s.startPresence = { s with condition := .online, presence := some (s.params.presenceTimeout * 10) } := by
    rw [← h]
    rfl
  rw [heq]
  exact .online s _

theorem returnOnline_moves (s : State) : Moves S s s.returnOnline := by
  have honline : Moves S s ({ s with condition := .online }.startPresence) := .online s _
  have hgo : Moves S s s.goOnline := offers_moves honline _
  refine hgo.trans (Moves.trans (.plain ?_ ?_) (markClosed_moves _))
  · constructor <;> rfl
  · exact fun ⟨h1, h2, h3, h4, h5, h6, _, _, h⟩ => ⟨h1, h2, h3, h4, h5, h6, Nat.zero_le _, Nat.zero_le _, h⟩

theorem heard_moves (s : State) : Moves S s s.heard := by
  unfold State.heard
  split
  · next h => exact startPresence_moves h
  · exact returnOnline_moves s

/-! ## The runtime reset (R63, R104, R148, R174) -/

theorem abortRecord_records (s : State) (r : Record) : (s.abortRecord r).records = (s.eraseRecord r.number).records :=
  removeRecord_records fun _ => rfl

theorem mem_abortRecord {r x : Record} (hx : x ∈ s.records) (hn : x.number ≠ r.number) : x ∈ (s.abortRecord r).records := by
  rw [abortRecord_records]
  exact mem_eraseRecord.2 ⟨hx, hn⟩

theorem abortRecord_moves {r : Record} (hr : S → r ∈ s.records) : Moves S s (s.abortRecord r) :=
  removeRecord_moves hr _ none (fun c => frees_abort c r.state) fun _ => .refl _

theorem mem_abort_foldl {x : Record} : ∀ (l : List Record) (s : State),
    x ∈ (l.foldl State.abortRecord s).records → x ∈ s.records ∧ ∀ r ∈ l, x.number ≠ r.number
  | [], s, hx => ⟨hx, fun r hr => by cases hr⟩
  | r :: rest, s, hx => by
    obtain ⟨hmem, hrest⟩ := mem_abort_foldl rest _ hx
    rw [abortRecord_records] at hmem
    obtain ⟨hm, hn⟩ := mem_eraseRecord.1 hmem
    refine ⟨hm, fun y hy => ?_⟩
    rcases List.mem_cons.1 hy with rfl | hy
    · exact hn
    · exact hrest y hy

theorem abortAll_records (s : State) : s.abortAll.records = [] :=
  List.eq_nil_iff_forall_not_mem.2 fun x hx => by
    obtain ⟨hm, hn⟩ := mem_abort_foldl s.records s hx
    exact hn x hm rfl

theorem abortAll_goes (s : State) : Goes S s s.abortAll := fun hs =>
  foldl_moves (fun _ _ => abortRecord_moves) (fun _ _ _ => mem_abortRecord) _ s fun hS => ⟨fun _ hr => hr, (hs hS).docks.2.1⟩

theorem masterSound_runtimeReset {x : StringMaster} {noMember : Prop} {b : Bool} (hb : b = true → noMember)
    (h : MasterSound noMember x) : MasterSound noMember (x.runtimeReset b) := by
  obtain ⟨-, -, -, hpulses, htimer⟩ := h
  unfold StringMaster.runtimeReset
  by_cases hrec : x.line = .recovering
  · refine ⟨by simp [hrec], by simp [hrec], by simp [hrec], by simp [hrec], ?_⟩
    simpa [hrec] using htimer
  · obtain ⟨hp, ht⟩ := hpulses hrec
    cases b
    · exact ⟨by simp [hrec], by simp [hrec], by simp [hrec], fun _ => ⟨hp, ht⟩, fun h => by simp [ht] at h⟩
    · exact ⟨by simp [hrec], fun _ => ⟨hb rfl, rfl, rfl⟩, by simp [hrec], fun _ => ⟨hp, ht⟩, fun h => by simp [ht] at h⟩

theorem resetString_moves (s : State) (m : StringId) : Moves S s (s.resetString m) :=
  .str s m _ id (masterSound_runtimeReset fun h => List.isEmpty_iff.1 h)

theorem runtimeBlocks_goes (s : State) : Goes S s s.runtimeBlocks := by
  refine (abortAll_goes s).trans (Moves.goes ?_)
  refine (Moves.resetDocks _ _ fun _ => abortAll_records s).trans ((resetString_moves _ .a).trans
    ((resetString_moves _ .b).trans (.loads _ .initial none (fun _ => ⟨?_, trivial⟩) fun _ => Nat.zero_le _)))
  exact ⟨fun _ => ⟨rfl, rfl, rfl, rfl⟩, fun h => absurd rfl h, fun h => by cases h⟩

theorem takeRuntimeReset_goes (s : State) : Goes S s (takeRuntimeReset s) := by
  have hempty : Moves S s { s with uplink := [] } := .plain (by constructor <;> rfl) fun ⟨_, h⟩ => ⟨Nat.zero_le _, h⟩
  exact hempty.goes.trans ((runtimeBlocks_goes _).trans ((offer_moves _ _).trans (heard_moves _)).goes)

theorem blankStation_moves (s t : State) (code : BitVec 12) (first : StationReport) : Moves S s (t.blankStation code first) :=
  .blank (blankStation_atPowerOn t code first) (Nat.le_add_left 1 63) fun m => by cases m <;> rfl

theorem takeStationReset_goes (body : List Byte) (s : State) : Goes S s (takeStationReset body s) := by
  unfold takeStationReset
  split
  · exact takeRuntimeReset_goes s
  · exact (blankStation_moves s s _ _).goes

end Sys2Proof.Machine
end

section
/-! The dock strings, the loads and the batches as moves (chapters 8 and 9). -/

namespace Sys2Proof.Machine

variable {S : Prop} {s t : State} {m : StringId}

/-! ## Exchanges (R133 to R138, R144, R145) -/

section
variable {x : StringMaster} {noMember : Prop}

/-- What a String Master in CLEARING holds. -/
theorem MasterSound.clearing (h : MasterSound noMember x) (hl : x.line = .clearing) :
    x.exchange = none ∧ x.driverEnable = false ∧ x.pulses = 0 ∧ x.recoveryTimer = none := by
  obtain ⟨hex, -, hdriver, hpulses, -⟩ := h
  obtain ⟨hp, ht⟩ := hpulses (by simp [hl])
  exact ⟨by simpa [hl] using hex, hdriver (.inr hl), hp, ht⟩

/-- What a String Master in POLLING holds. -/
theorem MasterSound.polling (h : MasterSound noMember x) (hl : x.line = .polling) : x.pulses = 0 ∧ x.recoveryTimer = none := by
  obtain ⟨-, -, -, hpulses, -⟩ := h
  exact hpulses (by simp [hl])

theorem masterSound_begin {cycle : Fin 8} {e : Exchange} {line : List Byte} (hp : x.pulses = 0) (ht : x.recoveryTimer = none) :
    MasterSound noMember (x.begin cycle e line) :=
  ⟨by simp [StringMaster.begin], by simp [StringMaster.begin], by simp [StringMaster.begin], fun _ => ⟨hp, ht⟩,
    fun h => by simp [StringMaster.begin, ht] at h⟩

/-- A String Master with no exchange, whose pulses are over and its driver low, may go to IDLE without members. -/
theorem masterSound_goIdle (hm : noMember) (hx : x.exchange = none) (hp : x.pulses = 0) (ht : x.recoveryTimer = none) :
    MasterSound noMember x.goIdle :=
  ⟨by simp [StringMaster.goIdle, hx], fun _ => ⟨hm, rfl, rfl⟩, fun _ => rfl, fun _ => ⟨hp, ht⟩, fun _ => ⟨hp, rfl⟩⟩

theorem masterSound_toClearing (hx : x.exchange = none) (hp : x.pulses = 0) (ht : x.recoveryTimer = none)
    (hd : x.driverEnable = false) : MasterSound noMember { x with line := .clearing } :=
  ⟨by simp [hx], by simp, fun _ => hd, fun _ => ⟨hp, ht⟩, fun _ => ⟨hp, hd⟩⟩

end

/-- After an exchange or a recovery the line goes to CLEARING, or to IDLE without members. -/
theorem clearLine_moves {x : StringMaster} (hstuck : (s.str m).stuck ≤ 255 → x.stuck ≤ 255)
    (h : MasterSound (s.members m = []) (s.str m) → x.exchange = none ∧ x.pulses = 0 ∧ x.recoveryTimer = none ∧
      x.driverEnable = false) : Moves S s (s.clearLine m x) := by
  unfold State.clearLine
  split
  · next hm =>
    refine .str s m _ hstuck fun hs => ?_
    obtain ⟨hx, hp, ht, -⟩ := h hs
    exact masterSound_goIdle (List.isEmpty_iff.1 hm) hx hp ht
  · refine .str s m _ hstuck fun hs => ?_
    obtain ⟨hx, hp, ht, hd⟩ := h hs
    exact masterSound_toClearing hx hp ht hd

theorem sendPoll_moves (h : (s.str m).line = .clearing) (cycle : Fin 8) (d : DockNo) : Moves S s (s.sendPoll m cycle d) := by
  have hbegin : ∀ (e : Exchange) (line : List Byte), Moves S s (s.setStr m ((s.str m).begin cycle e line)) := fun e line =>
    .str s m _ id fun hs => by
      obtain ⟨-, -, hp, ht⟩ := hs.clearing h
      exact masterSound_begin hp ht
  unfold State.sendPoll
  dsimp only
  split
  · exact hbegin _ _
  · exact (hbegin _ _).trans (ctx_moves _ d stays_polledOnce)

/-- In the cycle with count 0 every member is due (R132). -/
theorem nextDue_zero (h : s.nextDue m 0 none = none) : s.members m = [] := by
  unfold State.nextDue at h
  cases hm : s.members m with
  | nil => rfl
  | cons d rest => simp [hm, abovePosition, State.due] at h

/-- New cycles that find no dock have each found none. -/
theorem newCycles_none : ∀ (fuel : Nat) (cycle : Fin 8), s.newCycles m fuel cycle = none →
    ∀ i < fuel, s.nextDue m (cycle + 1 + Fin.ofNat 8 i) none = none
  | 0, _, _, i, hi => absurd hi (Nat.not_lt_zero i)
  | fuel + 1, cycle, h, i, hi => by
    unfold State.newCycles at h
    split at h
    · cases h
    · next hn =>
      cases i with
      | zero => simpa using hn
      | succ j =>
        have hstep : cycle + 1 + Fin.ofNat 8 (j + 1) = cycle + 1 + 1 + Fin.ofNat 8 j := by
          apply Fin.ext
          simp only [Fin.val_add, Fin.val_ofNat, Fin.val_one]
          omega
        rw [hstep]
        exact newCycles_none fuel (cycle + 1) h j (by omega)

/-- A String Master that finds no dock to poll has no member: eight new cycles pass the count 0. -/
theorem chooseNext_none (h : s.chooseNext m = none) : s.members m = [] := by
  unfold State.chooseNext at h
  split at h
  · cases h
  · have hall := newCycles_none 8 _ h
    have hzero : ∀ c : Fin 8, ∃ i < 8, c + 1 + Fin.ofNat 8 i = 0 := by decide
    obtain ⟨i, hi, h0⟩ := hzero (s.str m).cycle
    have hdue := hall i hi
    rw [h0] at hdue
    exact nextDue_zero hdue

theorem takePollSend_moves (m : StringId) (s : State) : Moves S s (takePollSend m s) := by
  unfold takePollSend
  split
  · next hl =>
    split
    · exact sendPoll_moves hl _ _
    · next hn =>
      refine .str s m _ id fun hs => ?_
      obtain ⟨hx, -, hp, ht⟩ := hs.clearing hl
      exact masterSound_goIdle (chooseNext_none hn) hx hp ht
  · exact .refl s

theorem takePollLastCharacterEnd_moves (m : StringId) (s : State) : Moves S s (takePollLastCharacterEnd m s) := by
  unfold takePollLastCharacterEnd
  split
  · exact .str s m _ id fun ⟨hex, hidle, _, hpulses, htimer⟩ => ⟨hex, hidle, fun _ => rfl, hpulses, fun h => ⟨(htimer h).1, rfl⟩⟩
  · exact .refl s

/-- The reply window is open in POLLING with the driver low. -/
theorem windowOpen_some {x : StringMaster} {kind : PollKind} {e : Exchange} (h : x.windowOpen kind = some e) :
    x.line = .polling ∧ x.driverEnable = false := by
  unfold StringMaster.windowOpen at h
  split at h
  · split at h
    · next hopen => exact ⟨hopen.1, hopen.2.1⟩
    · cases h
  · cases h

theorem closeExchange_moves {kind : PollKind} {e : Exchange} (h : (s.str m).windowOpen kind = some e) :
    Moves S s (s.closeExchange m) := by
  obtain ⟨hl, hd⟩ := windowOpen_some h
  refine clearLine_moves id fun hs => ?_
  obtain ⟨hp, ht⟩ := hs.polling hl
  exact ⟨rfl, hp, ht, hd⟩

theorem takeWindow_goes (s : State) (e : Exchange) (rx : List Byte) : Goes S s (s.takeWindow e rx) := by
  unfold State.takeWindow
  split
  · exact takeReply_goes s _ _
  · refine Goes.trans ?_ (takeMiss_goes _ _)
    split
    · exact .refl s
    · exact (countCrc_moves s _).goes

theorem takeOrdinaryEnd_goes (m : StringId) (rx : List Byte) (s : State) : Goes S s (takeOrdinaryEnd m rx s) := by
  unfold takeOrdinaryEnd
  split
  · exact .refl s
  · next e h =>
    split
    · exact (closeExchange_moves h).goes
    · exact (closeExchange_moves h).goes.trans ((takeWindow_goes _ e rx).trans (tryTest_goes _ _ _))

theorem emptySlot_moves (s : State) (m : StringId) : Moves S s (s.emptySlot m) := .str s m _ id id

theorem takePassEnd_moves (m : StringId) (rx : List Byte) (s : State) : Moves S s (takePassEnd m rx s) := by
  unfold takePassEnd
  split
  · exact .refl s
  · next e h =>
    have hclosed : Moves S s ((s.closeExchange m).emptySlot m) := (closeExchange_moves h).trans (emptySlot_moves _ m)
    dsimp only
    split
    · exact offers_moves hclosed _
    · split
      · exact offers_moves hclosed _
      · refine offers_moves (hclosed.trans ?_) _
        split
        · exact .refl _
        · exact countCrc_moves _ _

/-! ## The line watchdog, head passes (R140 to R143) -/

theorem takeLineStuck_moves (m : StringId) (s : State) : Moves S s (takeLineStuck m s) := by
  unfold takeLineStuck
  dsimp only
  split
  · next hl =>
    refine .str s m _ (fun _ => Nat.min_le_left _ _) fun hs => ?_
    obtain ⟨hx, -⟩ := hs.clearing hl
    exact ⟨by simp [hx], by simp, by simp, by simp, by simp⟩
  · exact .refl s

theorem takePulsesDone_moves (m : StringId) (s : State) : Moves S s (takePulsesDone m s) := by
  unfold takePulsesDone
  dsimp only
  split
  · next h =>
    obtain ⟨hl, -⟩ := h
    exact .str s m _ id fun ⟨hex, hidle, _, _, _⟩ => ⟨hex, hidle, fun _ => rfl, fun h => absurd hl h, fun _ => ⟨rfl, rfl⟩⟩
  · exact .refl s

theorem takeRecoveryExpiry_moves (m : StringId) (s : State) : Moves S s (takeRecoveryExpiry m s) := by
  unfold takeRecoveryExpiry
  dsimp only
  split
  · next h =>
    obtain ⟨hl, ht⟩ := h
    refine clearLine_moves id fun ⟨hex, _, _, _, htimer⟩ => ?_
    obtain ⟨hp, hd⟩ := htimer ht
    exact ⟨by simpa [hl] using hex, hp, rfl, hd⟩
  · exact .refl s

theorem takeHeadPass_moves (body : List Byte) (s : State) : Moves S s (takeHeadPass body s) := by
  unfold takeHeadPass
  split
  · exact offer_moves s _
  · split
    · exact offer_moves s _
    · split
      · split
        · unfold State.passAt
          split
          · exact offer_moves s _
          · split
            · exact offer_moves s _
            · exact .str s _ _ id id
        · exact offer_moves s _
      · exact offer_moves s _

/-! ## The loader (R149 to R154) -/

theorem wordsPerRow_pos (t : TableId) : 0 < wordsPerRow t := by cases t <;> decide

/-- A load in progress: its table and window, the row counter within the window, less than a row in the buffer, whole rows of the
window staged in row order (R149). -/
structure Staging (l : Loader) (t : TableId) (first last : Nat) : Prop where
  table : l.table = some t
  window : l.window = some (first, last)
  ordered : first ≤ last
  within : last < tableRows t
  low : first ≤ l.rowCounter
  high : l.rowCounter ≤ last
  buffer : l.buffer.length < wordsPerRow t
  sorted : (l.staging.map Prod.fst).Pairwise (· < ·)
  rows : ∀ p ∈ l.staging, first ≤ p.1 ∧ p.1 ≤ last ∧ p.2.length = wordsPerRow t

/-- A sound loader that is not IDLE has a load in progress. -/
theorem LoaderSound.staging {l : Loader} (h : LoaderSound l) (hl : l.state ≠ .idle) : ∃ t first last, Staging l t first last := by
  obtain ⟨-, hbusy, -⟩ := h
  obtain ⟨t, first, last, h1, h2, h3, h4, h5, h6, h7, h8, h9⟩ := hbusy hl
  exact ⟨t, first, last, h1, h2, h3, h4, h5, h6, h7, h8, h9⟩

theorem Staging.loaderSound {l : Loader} {t : TableId} {first last : Nat} (h : Staging l t first last) (hl : l.state ≠ .idle)
    (hw : l.state = .waitingEpoch → l.buffer = []) : LoaderSound l :=
  ⟨fun h => absurd h hl,
    fun _ => ⟨t, first, last, h.table, h.window, h.ordered, h.within, h.low, h.high, h.buffer, h.sorted, h.rows⟩, hw⟩

theorem advance_within {l : Loader} {first last : Nat} (h : l.window = some (first, last)) (hle : first ≤ last) (n : Nat) :
    first ≤ l.advance n ∧ l.advance n ≤ last := by
  have hmod : (l.rowCounter - first + n) % (last - first + 1) < last - first + 1 := Nat.mod_lt _ (Nat.succ_pos _)
  simp only [Loader.advance, h]
  omega

theorem mem_stageRow {row : Nat} {ws : List Word} {p : Nat × List Word} : ∀ {l : List (Nat × List Word)}, p ∈ stageRow row ws l →
    p = (row, ws) ∨ p ∈ l
  | [], h => .inl (by simpa [stageRow] using h)
  | (r, x) :: rest, h => by
    unfold stageRow at h
    split at h
    · exact List.mem_cons.1 h
    · split at h
      · exact (List.mem_cons.1 h).imp_right (List.mem_cons_of_mem _)
      · rcases List.mem_cons.1 h with rfl | h
        · exact .inr List.mem_cons_self
        · exact (mem_stageRow h).imp_right (List.mem_cons_of_mem _)

theorem stageRow_sorted {row : Nat} {ws : List Word} : ∀ {l : List (Nat × List Word)}, (l.map Prod.fst).Pairwise (· < ·) →
    ((stageRow row ws l).map Prod.fst).Pairwise (· < ·)
  | [], _ => by simp [stageRow]
  | (r, x) :: rest, h => by
    obtain ⟨hr, hrest⟩ := List.pairwise_cons.1 h
    unfold stageRow
    split
    · next hlt =>
      refine List.pairwise_cons.2 ⟨fun b hb => ?_, h⟩
      rcases List.mem_cons.1 hb with rfl | hb
      · exact hlt
      · exact hlt.trans (hr b hb)
    · next hge =>
      split
      · next heq =>
        subst heq
        exact List.pairwise_cons.2 ⟨hr, hrest⟩
      · next hne =>
        refine List.pairwise_cons.2 ⟨fun b hb => ?_, stageRow_sorted hrest⟩
        obtain ⟨p, hp, rfl⟩ := List.mem_map.1 hb
        rcases mem_stageRow hp with rfl | hp
        · show r < row
          omega
        · exact hr _ (List.mem_map_of_mem hp)

/-- What an item of a word run or a skip leaves as it was, with the load still in progress. -/
structure Progress (t : TableId) (first last : Nat) (l l' : Loader) : Prop where
  state : l'.state = l.state
  staging : Staging l t first last → Staging l' t first last
  completed : l.completed ≤ 65535 → l'.completed ≤ 65535

theorem Progress.trans {t : TableId} {first last : Nat} {l l' l'' : Loader} (h : Progress t first last l l')
    (h' : Progress t first last l' l'') : Progress t first last l l'' :=
  ⟨h'.state.trans h.state, h'.staging ∘ h.staging, h'.completed ∘ h.completed⟩

theorem foldl_progress {α : Type} {t : TableId} {first last : Nat} {f : Loader → α → Loader}
    (hf : ∀ l a, Progress t first last l (f l a)) : ∀ (as : List α) (l : Loader), Progress t first last l (as.foldl f l)
  | [], _ => ⟨rfl, id, id⟩
  | a :: as, l => (hf l a).trans (foldl_progress hf as (f l a))

/-- A word joins the buffer, or completes a row, which is staged at the row counter (R152). -/
theorem takeWord_progress (t : TableId) (first last : Nat) (l : Loader) (w : Word) : Progress t first last l (l.takeWord w) := by
  unfold Loader.takeWord
  dsimp only
  split
  · next hfull =>
    refine ⟨rfl, fun h => ?_, fun _ => Nat.min_le_left _ _⟩
    rw [h.table, Option.map_some, Option.getD_some] at hfull
    have hlen : (l.buffer ++ [w]).length = wordsPerRow t := by
      have := h.buffer
      simp only [List.length_append, List.length_singleton] at hfull ⊢
      omega
    obtain ⟨hlow, hhigh⟩ := advance_within h.window h.ordered 1
    refine ⟨h.table, h.window, h.ordered, h.within, hlow, hhigh, wordsPerRow_pos t, stageRow_sorted h.sorted, fun p hp => ?_⟩
    rcases mem_stageRow hp with rfl | hp
    · exact ⟨h.low, h.high, hlen⟩
    · exact h.rows p hp
  · next hpart =>
    refine ⟨rfl, fun h => ?_, id⟩
    rw [h.table, Option.map_some, Option.getD_some] at hpart
    exact ⟨h.table, h.window, h.ordered, h.within, h.low, h.high, Nat.lt_of_not_le hpart, h.sorted, h.rows⟩

theorem takeSkip_progress (t : TableId) (first last : Nat) (l : Loader) (n : Nat) : Progress t first last l (l.takeSkip n) := by
  unfold Loader.takeSkip
  split <;> refine ⟨rfl, fun h => ?_, id⟩ <;> obtain ⟨hlow, hhigh⟩ := advance_within h.window h.ordered n
  · exact ⟨h.table, h.window, h.ordered, h.within, hlow, hhigh, wordsPerRow_pos t, h.sorted, h.rows⟩
  · exact ⟨h.table, h.window, h.ordered, h.within, hlow, hhigh, h.buffer, h.sorted, h.rows⟩

theorem takeItem_progress (t : TableId) (first last : Nat) (l : Loader) (i : RowItem) : Progress t first last l (l.takeItem i) := by
  cases i with
  | run ws => exact foldl_progress (takeWord_progress t first last) ws l
  | skip n => exact takeSkip_progress t first last l n

/-- The loader replaced, the batch slot kept. -/
theorem loader_moves {l : Loader} (h : LoaderSound s.loader → LoaderSound l)
    (hc : s.loader.completed ≤ 65535 → l.completed ≤ 65535) : Moves S s { s with loader := l } :=
  .loads s l s.batch (fun hs => ⟨h hs.1, hs.2⟩) hc

theorem loaderSound_goIdle (l : Loader) : LoaderSound l.goIdle :=
  ⟨fun _ => ⟨rfl, rfl, rfl, rfl⟩, fun h => absurd rfl h, fun h => by cases h⟩

theorem loadReply_moves (s : State) (o : LoadOutcome) (n : Nat) : Moves S s (s.loadReply o n) := offer_moves s _

theorem endLoad_moves {held : Loader} (hc : s.loader.completed ≤ 65535 → held.completed ≤ 65535) (o : LoadOutcome) :
    Moves S s (s.endLoad held o) := offers_moves (loader_moves (fun _ => loaderSound_goIdle held) hc) _

theorem goodWindow_some {body : List Byte} {t : TableId} (h : goodWindow body = some t) :
    (byteAt body 1).toNat ≤ (byteAt body 2).toNat ∧ (byteAt body 2).toNat < tableRows t := by
  unfold goodWindow at h
  split at h
  · cases h
  · split at h
    · next hw =>
      cases h
      exact hw
    · cases h

theorem loaderSound_openWindow (l : Loader) {t : TableId} {first last : Nat} (hle : first ≤ last) (hlt : last < tableRows t)
    (defer : Bool) : LoaderSound (l.openWindow t first last defer) :=
  Staging.loaderSound (t := t) (first := first) (last := last)
    ⟨rfl, rfl, hle, hlt, Nat.le_refl _, hle, wordsPerRow_pos t, List.Pairwise.nil, fun p hp => by cases hp⟩
    (fun h => by cases h) (fun h => by cases h)

theorem takeLoadOpen_moves (body : List Byte) (s : State) : Moves S s (takeLoadOpen body s) := by
  unfold takeLoadOpen
  split
  · exact loadReply_moves s _ _
  · split
    · exact loadReply_moves s _ _
    · next t ht =>
      obtain ⟨hle, hlt⟩ := goodWindow_some ht
      exact (loader_moves (fun _ => loaderSound_openWindow _ hle hlt _) fun _ => Nat.zero_le _).trans (loadReply_moves _ _ _)

theorem takeLoadRows_moves (body : List Byte) (s : State) : Moves S s (takeLoadRows body s) := by
  unfold takeLoadRows
  split
  · next hopen =>
    have hbusy : s.loader.state ≠ .idle := by simp [hopen]
    split
    · exact loadReply_moves s _ _
    · next items _ =>
      refine loader_moves (fun hs => ?_) (foldl_progress (takeItem_progress .dock 0 0) items s.loader).completed
      obtain ⟨t, first, last, hst⟩ := hs.staging hbusy
      have hp := foldl_progress (takeItem_progress t first last) items s.loader
      exact (hp.staging hst).loaderSound (by rw [hp.state]; exact hbusy) fun h => by rw [hp.state, hopen] at h; cases h
  · exact loadReply_moves s _ _

/-! ## Commits (R147, R154, R158, R159) -/

theorem passAfterCommit_moves (s : State) (m : StringId) : Moves S s (s.passAfterCommit m) := by
  unfold State.passAfterCommit
  split
  · split
    · exact offers_moves (emptySlot_moves s m) _
    · exact .refl s
  · exact .refl s

theorem commitStrings_moves {descs : Vector DockDesc 48} {p : Params} (h : s.namedKept descs p = true) :
    Moves S s ((s.commitDocks descs p).commitStrings s) :=
  (Moves.commit s descs p h).trans ((passAfterCommit_moves _ .a).trans (passAfterCommit_moves _ .b))

/-- A DOCK load that passes its checks leaves the docks that records name as they are (R158 check 3). -/
theorem namedKept_of_dock {l : Loader} (h : s.checkLoad l = none) (ht : l.table = some .dock) :
    s.namedKept (s.newDescs l) s.params = true := by
  simp only [State.checkLoad, ht] at h
  split at h
  · cases h
  · split at h
    · cases h
    · next hkept => simpa using hkept

/-- A PARAM load that passes its checks does so too. -/
theorem namedKept_of_param {l : Loader} (h : s.checkLoad l = none) (ht : l.table = some .param) :
    s.namedKept s.descs (s.newParams l) = true := by
  simp only [State.checkLoad, ht] at h
  split at h
  · cases h
  · split at h
    · cases h
    · split at h
      · cases h
      · next hkept => simpa using hkept

theorem commitRows_moves {l : Loader} (h : s.checkLoad l = none) : Moves S s (s.commitRows l) := by
  unfold State.commitRows
  split
  · next ht => exact commitStrings_moves (namedKept_of_dock h ht)
  · next ht => exact commitStrings_moves (namedKept_of_param h ht)
  · exact .plain (by constructor <;> rfl) id
  · exact .plain (by constructor <;> rfl) id
  · exact .refl s

theorem commitRows_loader (s : State) (l : Loader) : (s.commitRows l).loader = s.loader := by
  have hstrings := commitStrings_keeps State.loader offer_loader setStr_loader
  unfold State.commitRows
  split
  · exact hstrings _ _
  · exact hstrings _ _
  · rfl
  · rfl
  · rfl

/-- A load committed: its rows, then the end of the load. -/
theorem commitEnd_moves {l : Loader} (h : s.checkLoad l = none) (hc : s.loader.completed ≤ 65535 → l.completed ≤ 65535)
    (o : LoadOutcome) : Moves S s ((s.commitRows l).endLoad l o) :=
  (commitRows_moves h).trans (endLoad_moves (by rw [commitRows_loader]; exact hc) o)

theorem commitLoad_moves (s : State) : Moves S s (s.commitLoad s.loader) := by
  unfold State.commitLoad
  split
  · exact endLoad_moves id _
  · next h => exact commitEnd_moves h id _

theorem releaseLoad_moves (s : State) : Moves S s s.releaseLoad := by
  unfold State.releaseLoad
  split
  · exact commitLoad_moves s
  · exact .refl s

theorem trimmed_progress (t : TableId) (first last : Nat) (l : Loader) :
    Progress t first last l l.trimmed ∧ l.trimmed.buffer = [] := by
  unfold Loader.trimmed
  split
  · next h => exact ⟨⟨rfl, id, id⟩, List.isEmpty_iff.1 h⟩
  · refine ⟨⟨rfl, fun h => ?_, id⟩, rfl⟩
    exact ⟨h.table, h.window, h.ordered, h.within, h.low, h.high, wordsPerRow_pos t, h.sorted, h.rows⟩

theorem Staging.waiting {l : Loader} {t : TableId} {first last : Nat} (h : Staging l t first last) :
    Staging { l with state := .waitingEpoch } t first last :=
  ⟨h.table, h.window, h.ordered, h.within, h.low, h.high, h.buffer, h.sorted, h.rows⟩

theorem takeLoadSeal_moves (body : List Byte) (s : State) : Moves S s (takeLoadSeal body s) := by
  have hcompleted := (trimmed_progress .dock 0 0 s.loader).1.completed
  unfold takeLoadSeal
  split
  · next hopen =>
    have hbusy : s.loader.state ≠ .idle := by simp [hopen]
    dsimp only
    split
    · exact endLoad_moves hcompleted _
    · split
      · exact endLoad_moves hcompleted _
      · next hcheck =>
        split
        · refine offers_moves (loader_moves (l := { s.loader.trimmed with state := .waitingEpoch }) (fun hs => ?_) hcompleted) _
          obtain ⟨t, first, last, hst⟩ := hs.staging hbusy
          obtain ⟨hp, hbuffer⟩ := trimmed_progress t first last s.loader
          exact (hp.staging hst).waiting.loaderSound (fun h => by cases h) fun _ => hbuffer
        · exact commitEnd_moves hcheck hcompleted _
  · exact loadReply_moves s _ _

theorem takeLoadAbort_moves (s : State) : Moves S s (takeLoadAbort s) := by
  unfold takeLoadAbort
  split
  · exact loadReply_moves s _ _
  · exact offers_moves (loader_moves (fun _ => loaderSound_goIdle _) id) _

/-! ## Batches (R162, R163) -/

/-- The batch slot replaced, the loader kept. -/
theorem batch_moves {b : Option Batch} (h : BatchSound s.batch → BatchSound b) : Moves S s { s with batch := b } :=
  .loads s s.loader b (fun hs => ⟨hs.1, h hs.2⟩) id

theorem recordsOf_length : ∀ (n : Nat) (bs : List Byte), (recordsOf n bs).length = n
  | 0, _ => rfl
  | n + 1, bs => by simp [recordsOf, recordsOf_length n]

theorem batchRecords_length {body : List Byte} {rs : List BatchRecord} (h : batchRecords body = some rs) : rs.length ≤ 32 := by
  unfold batchRecords at h
  split at h
  · cases h
  · dsimp only at h
    split at h
    · next hn =>
      cases h
      rw [recordsOf_length]
      exact hn.1
    · cases h

theorem takeBatch_moves (kind : BatchKind) (body : List Byte) (s : State) : Moves S s (takeBatch kind body s) := by
  unfold takeBatch
  split
  · exact offer_moves s _
  · split
    · exact offer_moves s _
    · exact offer_moves s _
    · next r rs h => exact batch_moves fun _ => ⟨Nat.succ_pos _, batchRecords_length h, rfl⟩

theorem endBatch_moves (s : State) (b : Batch) (applied : Nat) (stop : StopReason) (key : Key) :
    Moves S s (s.endBatch b applied stop key) := offers_moves (batch_moves (b := none) fun _ => trivial) _

/-- The slot goes to the next record of the batch it holds, or is left. -/
theorem advanceBatch_moves {b : Batch} (h : s.batch = some b) : Moves S s (s.advanceBatch b) := by
  unfold State.advanceBatch
  split
  · next hnext =>
    refine batch_moves fun hs => ?_
    rw [h] at hs
    obtain ⟨-, hlen, happlied⟩ := hs
    exact ⟨hnext, hlen, congrArg (· + 1) happlied⟩
  · exact endBatch_moves ..

theorem entrySound_newEntry (r : BatchRecord) (now : Half) (hk : r.key ≠ 0) : EntrySound (r.newEntry now) :=
  ⟨hk, Nat.min_le_left _ _, Nat.zero_le _, rfl⟩

theorem putRider_ok {r : BatchRecord} (h : s.putRider r = .ok t) : Moves S s t ∧ t.batch = s.batch := by
  unfold State.putRider at h
  split at h
  · cases h
    exact ⟨rider_moves s _ fun e => recounts_putOver e r, modRider_batch ..⟩
  · next hn =>
    split at h
    · next u hu =>
      cases h
      exact ⟨.insert _ hu (show s.lookup r.key = none by simpa using hn) (entrySound_newEntry r _), insertRider_keeps State.batch (fun _ _ => rfl) hu⟩
    · cases h

theorem dropRecord_ok {r : BatchRecord} (h : s.dropRecord r = .ok t) : Moves S s t ∧ t.batch = s.batch := by
  unfold State.dropRecord at h
  cases h
  split
  · exact ⟨rider_moves s _ recounts_markDrop, modRider_batch ..⟩
  · next hn => exact ⟨.drop s _ (by simpa using hn), dropRider_batch ..⟩

theorem addRecordKey_ok {r : BatchRecord} (hk : r.key ≠ 0) (h : s.addRecordKey r = .ok t) : Moves S s t ∧ t.batch = s.batch := by
  unfold State.addRecordKey at h
  split at h
  · cases h
  · next hroom =>
    cases h
    refine ⟨.blocks s _ fun hs => blockListOrdered_listKey hs hk _ ?_, rfl⟩
    by_contra hno
    rw [not_or] at hno
    exact hroom ⟨isBlocked_eq_false_iff.2 fun e he hek => hno.2 ⟨e, he, hek⟩, Nat.le_of_not_lt hno.1⟩

theorem removeKey_ok {r : BatchRecord} (h : s.removeKey r = .ok t) : Moves S s t ∧ t.batch = s.batch := by
  unfold State.removeKey at h
  cases h
  exact ⟨.blocks s _ fun hs => blockListOrdered_filter hs _, rfl⟩

theorem applyRecord_ok {kind : BatchKind} {r : BatchRecord} (h : s.applyRecord kind r = .ok t) :
    Moves S s t ∧ t.batch = s.batch := by
  unfold State.applyRecord at h
  split at h
  · cases h
  · next hk =>
    split at h
    · exact putRider_ok h
    · exact dropRecord_ok h
    · exact addRecordKey_ok hk h
    · exact removeKey_ok h
    · cases h

theorem takeRecord_moves (k : RecordKind) (s : State) : Moves S s (takeRecord k s) := by
  unfold takeRecord
  split
  · exact .refl s
  · next b hb =>
    split
    · exact .refl s
    · split
      · unfold State.applyNext
        split
        · next t ht =>
          obtain ⟨hmoves, hbatch⟩ := applyRecord_ok ht
          exact hmoves.trans (advanceBatch_moves (hbatch.trans hb))
        · exact endBatch_moves ..
      · exact .refl s

end Sys2Proof.Machine
end

section
/-! The clock, the queries, the station link, and so every step, as moves (chapters 7, 9 and 10); the invariants that follow. -/

namespace Sys2Proof.Machine

variable {S : Prop} {s t : State}

/-! ## The clock (R39, R120 to R125) -/

theorem purge_moves (s : State) (e : Half) : Moves S s { s with blocks := purged s.blocks e } :=
  .blocks s _ fun h => blockListOrdered_filter h _

theorem changeEpoch_moves (s : State) (e : Half) : Moves S s (s.changeEpoch e) :=
  (Moves.epoch s e (s.params.epochLength * 10)).trans ((purge_moves
    { s with epochValid := true, epoch := e, epochTimer := some (s.params.epochLength * 10) } e).trans (releaseLoad_moves _))

theorem takeEpochMark_moves (body : List Byte) (s : State) : Moves S s (takeEpochMark body s) := by
  unfold takeEpochMark
  dsimp only
  split
  · next hv =>
    split
    · have hsame := Moves.epoch (S := S) s s.epoch (s.params.epochLength * 10)
      rwa [← hv] at hsame
    · split
      · exact changeEpoch_moves s _
      · exact .plain (by constructor <;> rfl) fun ⟨h1, h2, h3, h4, _, h⟩ => ⟨h1, h2, h3, h4, Nat.min_le_left _ _, h⟩
  · exact changeEpoch_moves s _

theorem takeEpochExpiry_moves (s : State) : Moves S s (takeEpochExpiry s) := by
  unfold takeEpochExpiry
  split
  · exact changeEpoch_moves s _
  · exact .refl s

/-! ## CREDIT, CLOSE_RIDE, QUERY (R30, R31, R164, R166) -/

theorem takeCredit_moves (body : List Byte) (s : State) : Moves S s (takeCredit body s) :=
  rider_moves s _ fun e => recounts_addAllowance e _

theorem takeCloseRide_moves (body : List Byte) (s : State) : Moves S s (takeCloseRide body s) := by
  unfold takeCloseRide
  split
  · exact .refl s
  · split
    · exact rider_moves s _ recounts_bikeIn
    · exact .plain (by constructor <;> rfl) fun ⟨h1, h2, h3, h4, h5, _, h⟩ => ⟨h1, h2, h3, h4, h5, Nat.min_le_left _ _, h⟩

theorem clearCounts_moves (s : State) : Moves S s s.clearCounts := by
  refine Moves.trans (t := { s with badFrames := 0, foreignFrames := 0, drops := 0 }) (.plain (by constructor <;> rfl) ?_)
    (.ctxs _ _ fun _ => stays_clearCounts _)
  exact fun ⟨h1, _, _, _, h⟩ => ⟨h1, Nat.zero_le _, Nat.zero_le _, Nat.zero_le _, h⟩

theorem takeCounters_moves (clear : Bool) (s : State) : Moves S s (takeCounters clear s) := by
  unfold takeCounters
  split
  · exact (offer_moves s _).trans (clearCounts_moves _)
  · exact offer_moves s _

theorem takeQuery_moves (body : List Byte) (s : State) : Moves S s (takeQuery body s) := by
  unfold takeQuery
  dsimp only
  split
  case h_9 => exact takeCounters_moves _ s
  all_goals exact offer_moves s _

/-! ## Frames received (R168 to R173) -/

theorem handOver_goes (s : State) (k : DownKind) (body : List Byte) : Goes S s (s.handOver k body) := by
  cases k
  case verdict => exact (takeVerdict_moves body s).goes
  case credit => exact (takeCredit_moves body s).goes
  case closeRide => exact (takeCloseRide_moves body s).goes
  case loadOpen => exact (takeLoadOpen_moves body s).goes
  case loadRows => exact (takeLoadRows_moves body s).goes
  case loadSeal => exact (takeLoadSeal_moves body s).goes
  case loadAbort => exact (takeLoadAbort_moves s).goes
  case riderBatch => exact (takeBatch_moves .rider body s).goes
  case blockBatch => exact (takeBatch_moves .block body s).goes
  case epochMark => exact (takeEpochMark_moves body s).goes
  case dockOrder => exact takeDockOrder_goes body s
  case headPass => exact (takeHeadPass_moves body s).goes
  case query => exact (takeQuery_moves body s).goes
  case stationReset => exact takeStationReset_goes body s

theorem acceptFrame_goes (s : State) (k : DownKind) (body : List Byte) : Goes S s (s.acceptFrame k body) := by
  unfold State.acceptFrame
  split
  · split
    · exact handOver_goes s k body
    · exact (heard_moves s).goes.trans (handOver_goes _ k body)
  · exact ((heard_moves s).trans (countBad_moves _)).goes

theorem judgeFrame_goes (s : State) (frame : List Byte) : Goes S s (s.judgeFrame frame) := by
  unfold State.judgeFrame
  dsimp only
  split
  · exact (countBad_moves s).goes
  · split
    · exact (countForeign_moves s).goes
    · split
      · exact (countBad_moves s).goes
      · exact acceptFrame_goes s _ _

theorem deframerSound_initial : DeframerSound { s with deframer := .initial } := ⟨fun _ => rfl, fun h => absurd rfl h⟩

/-- The deframer after the last byte of a field: back in HUNT, or at the next field with a length it has judged (10.2). -/
theorem turn_sound {d : Deframer} {got : List Byte} (hs : d.stage ≠ .hunt) (hlen : d.len ≤ 1024)
    (hgot : got.length = d.fieldEnd) : DeframerSound { s with deframer := (d.turn got).1 } := by
  unfold Deframer.turn
  unfold Deframer.fieldEnd at hgot
  cases hst : d.stage <;> simp only [hst] at hgot
  case hunt => exact absurd hst hs
  case length =>
    dsimp only
    split
    · exact deframerSound_initial
    · next hle => exact ⟨fun h => by simp at h, fun _ => ⟨Nat.le_of_not_lt hle, by simp [Deframer.fieldEnd, hgot]⟩⟩
  case code => exact ⟨fun h => by simp at h, fun _ => ⟨hlen, by simp [Deframer.fieldEnd, hgot]⟩⟩
  case kind =>
    by_cases h0 : d.len = 0
    · exact ⟨fun h => by simp [h0] at h, fun _ => ⟨hlen, by simp [Deframer.fieldEnd, hgot, h0]⟩⟩
    · exact ⟨fun h => by simp [h0] at h, fun _ => ⟨hlen, by simp [Deframer.fieldEnd, hgot, h0]; omega⟩⟩
  case body => exact ⟨fun h => by simp at h, fun _ => ⟨hlen, by simp [Deframer.fieldEnd, hgot]⟩⟩
  case crc => exact deframerSound_initial

theorem feed_sound (b : Byte) (h : DeframerSound s) : DeframerSound { s with deframer := (s.deframer.feed b).1 } := by
  obtain ⟨hhunt, hbusy⟩ := h
  unfold Deframer.feed
  split
  · next hs =>
    split
    · exact ⟨fun h => by simp at h, fun _ => ⟨Nat.zero_le _, by simp [Deframer.fieldEnd]⟩⟩
    · exact ⟨fun _ => hhunt hs, fun h => absurd hs h⟩
  · next hs =>
    obtain ⟨hlen, hgot⟩ := hbusy hs
    split
    · next hmore => exact ⟨fun h => absurd h hs, fun _ => ⟨hlen, by simpa [Deframer.fieldEnd] using hmore⟩⟩
    · next hlast => exact turn_sound hs hlen (by simp only [List.length_append, List.length_singleton]; omega)

theorem rxByte_goes (s : State) (b : Byte) : Goes S s (s.rxByte b) := by
  have hfeed : Moves S s { s with deframer := (s.deframer.feed b).1 } := .deframer s _ (feed_sound b)
  unfold State.rxByte
  split
  · next d hd => rw [hd] at hfeed; exact hfeed.goes
  · next d hd => rw [hd] at hfeed; exact (hfeed.trans (countBad_moves _)).goes
  · next d frame hd => rw [hd] at hfeed; exact hfeed.goes.trans (judgeFrame_goes _ frame)

theorem rxChars_goes : ∀ (bs : List Byte) (s : State), Goes S s (s.rxChars bs)
  | [], s => .refl s
  | b :: bs, s => (rxByte_goes s b).trans (rxChars_goes bs _)

theorem abandonFrame_moves (s : State) : Moves S s s.abandonFrame := by
  unfold State.abandonFrame
  split
  · exact .refl s
  · exact (Moves.deframer s .initial fun _ => deframerSound_initial).trans (countBad_moves _)

/-! ## The transmitter (R176, R178) -/

theorem takeTransmitStart_moves (linkReady : Bool) (s : State) : Moves S s (takeTransmitStart linkReady s) := by
  unfold takeTransmitStart
  split
  · next f rest _ hq =>
    split
    · refine .plain (by constructor <;> rfl) fun ⟨hlen, h⟩ => ⟨?_, h⟩
      rw [hq, List.length_cons] at hlen
      exact Nat.le_of_succ_le hlen
    · exact .refl s
  · exact .refl s

theorem takeTransmitEnd_moves (s : State) : Moves S s (takeTransmitEnd s) := by
  unfold takeTransmitEnd
  split
  · exact .plain (by constructor <;> rfl) id
  · exact .refl s

theorem takeResetn_moves (s : State) : Moves S s (takeResetn s) := .plain (by constructor <;> rfl) id

theorem takePowerOn_moves (straps : BitVec 12) (s : State) : Moves S s (takePowerOn straps s) := blankStation_moves ..

/-! ## Every command, every step -/

/-- What a command does that nothing keeps from running is what its outcome is, or nothing while RESETN is low (R178). -/
theorem whenRunning_goes {f : State → State} (hf : Goes S s (f s)) (h : whenRunning s f = .next t) : Goes S s t := by
  obtain rfl : (if s.resetnLow then s else f s) = t := by simpa [whenRunning] using h
  split
  · exact .refl s
  · exact hf

theorem chars_goes {bs : List Byte} (h : (whenRunning s fun s => s.rxChars bs) = .next t) : Goes S s t :=
  whenRunning_goes (rxChars_goes bs s) h

theorem cut_goes {bs : List Byte} (h : (whenRunning s fun s => (s.rxChars bs).abandonFrame) = .next t) : Goes S s t :=
  whenRunning_goes (f := fun s => (s.rxChars bs).abandonFrame) ((rxChars_goes bs s).trans (abandonFrame_moves _).goes) h

/-- Every command is made of moves. -/
theorem exec_goes {i : Instr} (h : exec i s = .next t) : Goes S s t := by
  cases hf : frameOf i with
  | some x =>
    obtain ⟨k, code, body⟩ := x
    rw [exec_of_frameOf hf] at h
    exact chars_goes h
  | none =>
    cases i with
    | powerOnReset straps =>
      cases h
      exact (takePowerOn_moves straps s).goes
    | tick => exact whenRunning_goes (Moves.tick s).goes h
    | put => exact whenRunning_goes (takeRecord_moves .put s).goes h
    | drop => exact whenRunning_goes (takeRecord_moves .drop s).goes h
    | add => exact whenRunning_goes (takeRecord_moves .add s).goes h
    | remove => exact whenRunning_goes (takeRecord_moves .remove s).goes h
    | badFrame code kind body crc => exact chars_goes h
    | foreignFrame code kind body => exact chars_goes h
    | lengthOversize length => exact chars_goes h
    | frameGapTimeout chars => exact cut_goes h
    | framingError chars => exact cut_goes h
    | presenceTimerExpiry => exact whenRunning_goes (takePresenceExpiry_goes s) h
    | referralTimerExpiry n => exact whenRunning_goes (takeReferralExpiry_moves n s).goes h
    | liftTimerExpiry n => exact whenRunning_goes (takeLiftExpiry_moves n s).goes h
    | localEpochTimerExpiry => exact whenRunning_goes (takeEpochExpiry_moves s).goes h
    | pollSend m => exact whenRunning_goes (takePollSend_moves m s).goes h
    | pollLastCharacterEnd m => exact whenRunning_goes (takePollLastCharacterEnd_moves m s).goes h
    | ordinaryExchangeEnd m rx => exact whenRunning_goes (takeOrdinaryEnd_goes m rx s) h
    | passExchangeEnd m rx => exact whenRunning_goes (takePassEnd_moves m rx s).goes h
    | lineStuck m => exact whenRunning_goes (takeLineStuck_moves m s).goes h
    | breakPulsesDone m => exact whenRunning_goes (takePulsesDone_moves m s).goes h
    | recoveryTimerExpiry m => exact whenRunning_goes (takeRecoveryExpiry_moves m s).goes h
    | transmitStart linkReady => exact whenRunning_goes (takeTransmitStart_moves linkReady s).goes h
    | transmitEnd => exact whenRunning_goes (takeTransmitEnd_moves s).goes h
    | resetnAsserted => exact whenRunning_goes (takeResetn_moves s).goes h
    | _ => cases hf

/-- Every step is made of moves. -/
theorem step_goes (h : step s = .next t) : Goes S s t := by
  unfold step at h
  split at h
  · cases h
    exact .refl s
  · exact (withPending_moves s _).goes.trans (exec_goes h)

/-- Of any state, a step's moves, without a promise about the Release List. -/
theorem step_moves (h : step s = .next t) : Moves False s t := step_goes h False.elim

/-- Settles O58: every move keeps the Rider Table sound. -/
theorem riderTableStaysSound : Obligations.RiderTableStaysSound := fun _ _ hs h => (step_moves h).riderTableSound hs

/-- Settles O59: from a sound Release List, every move keeps it sound. -/
theorem releasesStaySound : Obligations.ReleasesStaySound := fun _ _ hs h =>
  (step_goes (S := True) h fun _ => hs).releasesSound trivial hs

/-- Settles O60: every move keeps each of the six invariants. -/
theorem blocksStaySound : Obligations.BlocksStaySound :=
  ⟨fun _ _ hs h => (step_moves h).countsBounded hs, fun _ _ hs h => (step_moves h).blockListOrdered hs,
    fun _ _ hs h => (step_moves h).loadsSound hs, fun _ _ hs h => (step_moves h).stringsSound hs,
    fun _ _ hs h => (step_moves h).conditionSound hs, fun _ _ hs h => (step_moves h).deframerSound hs⟩

end Sys2Proof.Machine
end

section
/-! The runtime reset at the Rider Table: what the removed records counted and charged is given back, and a drop-pending entry goes
with the last record that names it (R23, R34, R84, R104). -/

namespace Sys2Proof.Machine

variable {s : State} {k : Key}

/-! ## One record removed -/

theorem lookup_refundFor (s : State) (r : Record) (k : Key) : (s.refundFor r).lookup k =
    (s.lookup k).map fun e => if r.rider = some k then e.refund r.counted r.charged else e := by
  cases hr : r.rider with
  | none => simp [State.refundFor, hr]
  | some q =>
    rw [refundFor_some hr, lookup_modRider _ _ _ fun e => refund_key e _ _]
    by_cases hq : k = q
    · simp [hq]
    · simp [hq, Ne.symm hq]

/-- In a sound table the drop-pending test takes out the tested key's entry, when it is drop-pending and no record names it. -/
theorem lookup_dropTest (hs : RiderTableSound s) (rider : Option Key) (k : Key) : (s.dropTest rider).lookup k =
    (s.lookup k).bind fun e => if rider = some k ∧ e.dropPending = true ∧ s.named k = false then none else some e := by
  cases rider with
  | none => simp [State.dropTest]
  | some q =>
    by_cases hq : q = k
    · subst hq
      cases he : s.lookup q with
      | none => rw [dropTest_absent he, he]; rfl
      | some e =>
        rw [dropTest_found he, Option.bind_some]
        by_cases hdrop : e.dropPending = true ∧ s.named q = false
        · rw [if_pos (by simp [hdrop]), if_pos ⟨rfl, hdrop⟩]
          exact lookup_dropRider_self hs
        · rw [if_neg (by simpa using hdrop), if_neg fun h => hdrop h.2]
          exact he
    · have hkeep : (s.dropTest (some q)).lookup k = s.lookup k := by
        cases he : s.lookup q with
        | none => rw [dropTest_absent he]
        | some e =>
          rw [dropTest_found he]
          split
          · exact lookup_dropRider_ne s (Ne.symm hq)
          · rfl
      simp [hkeep, hq]

/-- What the removal of one record by the runtime reset gives back to an entry. -/
def RiderEntry.giveBack (e : RiderEntry) (k : Key) (r : Record) : RiderEntry :=
  if r.rider = some k ∧ r.state ≠ .referred then e.refund r.counted r.charged else e

theorem giveBack_dropPending (e : RiderEntry) (k : Key) (r : Record) : (e.giveBack k r).dropPending = e.dropPending := by
  unfold RiderEntry.giveBack
  split
  · rw [refund_eq]
  · rfl

/-- One record removed: its rider's entry gets back what it gave, and goes when it is drop-pending and named no more. -/
theorem lookup_abortRecord (hs : RiderTableSound s) (r : Record) (k : Key) : (s.abortRecord r).lookup k =
    (s.lookup k).bind fun e =>
      if r.rider = some k ∧ e.dropPending = true ∧ (s.eraseRecord r.number).named k = false then none
      else some (e.giveBack k r) := by
  have htest : ∀ u : State, RiderTableSound u → u.records = s.records →
      u.lookup k = (s.lookup k).map (·.giveBack k r) →
      (((u.eraseRecord r.number).modCtx r.dock fun c => c.abort r.state).dropTest r.rider).lookup k = (s.lookup k).bind fun e =>
        if r.rider = some k ∧ e.dropPending = true ∧ (s.eraseRecord r.number).named k = false then none
        else some (e.giveBack k r) := fun u hu hrec hlook => by
    have hnamed : ((u.eraseRecord r.number).modCtx r.dock fun c => c.abort r.state).named k = (s.eraseRecord r.number).named k := by
      simp [State.named, State.eraseRecord, hrec]
    have hsound : RiderTableSound ((u.eraseRecord r.number).modCtx r.dock fun c => c.abort r.state) :=
      riderTableSound_congr (s := u) rfl hu
    rw [lookup_dropTest hsound, hnamed, modCtx_lookup, eraseRecord_lookup, hlook]
    cases s.lookup k with
    | none => rfl
    | some e => simp only [Option.map_some, Option.bind_some, giveBack_dropPending]
  by_cases href : r.state = .referred
  · have heq : s.abortRecord r =
        ((s.eraseRecord r.number).modCtx r.dock fun c => c.abort r.state).dropTest r.rider := by
      simp [State.abortRecord, State.removeRecord, href]
    rw [heq]
    exact htest s hs rfl (by simp [RiderEntry.giveBack, href])
  · have heq : s.abortRecord r =
        (((s.refundFor r).eraseRecord r.number).modCtx r.dock fun c => c.abort r.state).dropTest r.rider := by
      simp [State.abortRecord, State.removeRecord, href]
    rw [heq]
    refine htest _ ((refundFor_moves (S := False) s r).riderTableSound hs) (refundFor_records s r) ?_
    rw [lookup_refundFor]
    simp [RiderEntry.giveBack, href]

/-! ## Every record removed -/

/-- An entry with what all the records of a list counted and charged to its rider given back. -/
def RiderEntry.giveBackAll (e : RiderEntry) (k : Key) (rs : List Record) : RiderEntry :=
  { e with bikesOut := e.bikesOut - rs.countP fun r => r.rider == some k && r.state != .referred && r.counted
           allowance := min 63 (e.allowance + rs.countP fun r => r.rider == some k && r.state != .referred && r.charged) }

theorem giveBackAll_nil {e : RiderEntry} (h : e.allowance ≤ 63) (k : Key) : e.giveBackAll k [] = e := by
  simp [RiderEntry.giveBackAll, h]

theorem giveBackAll_cons (e : RiderEntry) (k : Key) (r : Record) (rs : List Record) :
    e.giveBackAll k (r :: rs) = (e.giveBack k r).giveBackAll k rs := by
  by_cases h : r.rider = some k ∧ r.state ≠ .referred
  · obtain ⟨hk, hst⟩ := h
    simp only [RiderEntry.giveBack, hk, hst, ne_eq, not_false_eq_true, and_self, if_true, refund_eq, RiderEntry.giveBackAll]
    cases hcounted : r.counted <;> cases hcharged : r.charged <;>
      simp [hk, hst, hcounted, hcharged] <;> omega
  · have hno : (r.rider == some k && r.state != .referred) = false := by simpa [Bool.and_eq_false_iff, or_iff_not_imp_left] using h
    simp [RiderEntry.giveBack, h, RiderEntry.giveBackAll, hno]

theorem lookup_sound (hs : RiderTableSound s) {e : RiderEntry} (he : s.lookup k = some e) : EntrySound e := by
  obtain ⟨w, -, hget⟩ := lookup_eq_some.1 he
  exact (hs.1 _ _ _ hget).1

/-- The records left after the first is removed. -/
theorem eraseRecord_head {r : Record} {rest : List Record} (h : s.records = r :: rest) (hn : (s.records.map Record.number).Nodup) :
    (s.eraseRecord r.number).records = rest := by
  rw [h] at hn
  obtain ⟨hr, -⟩ := List.nodup_cons.1 hn
  have hrest : ∀ x ∈ rest, (x.number != r.number) = true := fun x hx =>
    bne_iff_ne.2 fun hxr => hr (hxr ▸ List.mem_map_of_mem hx)
  simp [State.eraseRecord, h, List.filter_eq_self.2 hrest]

/-- All records removed, oldest first: a drop-pending entry that one of them names goes, every other entry gets back what all of them
gave. -/
theorem lookup_abort_foldl (k : Key) : ∀ (rs : List Record) (s : State), s.records = rs → (s.records.map Record.number).Nodup →
    RiderTableSound s → (rs.foldl State.abortRecord s).lookup k = (s.lookup k).bind fun e =>
      if e.dropPending = true ∧ s.named k = true then none else some (e.giveBackAll k rs)
  | [], s, hr, _, hs => by
    cases he : s.lookup k with
    | none => simpa using he
    | some e =>
      obtain ⟨-, hle, -⟩ := lookup_sound hs he
      simp [he, State.named, hr, giveBackAll_nil hle]
  | r :: rest, s, hr, hn, hs => by
    have hrest : (s.abortRecord r).records = rest := (abortRecord_records s r).trans (eraseRecord_head hr hn)
    have hnodup : ((s.abortRecord r).records.map Record.number).Nodup := by
      rw [hrest]
      rw [hr] at hn
      exact (List.nodup_cons.1 hn).2
    have hmoves : Moves False s (s.abortRecord r) := abortRecord_moves False.elim
    rw [List.foldl_cons, lookup_abort_foldl k rest _ hrest hnodup (hmoves.riderTableSound hs), lookup_abortRecord hs]
    have hafter : (s.eraseRecord r.number).named k = (s.abortRecord r).named k := by
      simp only [State.named, abortRecord_records]
    have hnamed : s.named k = (r.rider == some k || (s.abortRecord r).named k) := by
      simp only [State.named, hrest, hr, List.any_cons]
    rw [hafter, hnamed]
    cases he : s.lookup k with
    | none => rfl
    | some e =>
      simp only [Option.bind_some, giveBackAll_cons]
      cases hdrop : e.dropPending <;> cases hmore : (s.abortRecord r).named k <;> by_cases hk : r.rider = some k <;>
        simp [hk, hdrop, giveBack_dropPending]

/-! ## The reset -/

theorem acceptFrame_runtimeReset (s : State) : s.acceptFrame .stationReset [1] = takeRuntimeReset s := rfl

/-- Of the reset of the blocks the removal of the records alone reaches the Rider Table. -/
theorem lookup_runtimeBlocks (s : State) (k : Key) : s.runtimeBlocks.lookup k = s.abortAll.lookup k := by
  have hriders : s.runtimeBlocks.riders = s.abortAll.riders := by
    simp only [State.runtimeBlocks, State.resetString, setStr_riders, State.resetDocks, mapCtxs_riders]
  rw [lookup_congr hriders]

theorem lookup_takeRuntimeReset (s : State) (k : Key) :
    (takeRuntimeReset s).lookup k = ({ s with uplink := [] }.abortAll).lookup k := by
  simp only [takeRuntimeReset, heard_lookup, offer_lookup, lookup_runtimeBlocks]

/-- Settles O6: the lookups after every record has been removed. -/
theorem runtimeResetOfTheRiders : Obligations.RuntimeResetOfTheRiders := by
  refine fun code s h hs hrel => ⟨takeRuntimeReset s, ?_, fun k => ?_⟩
  · have hlen : [(1 : Byte)].length ≤ 1024 := by decide
    rw [exec_of_frameOf (i := .stationResetRuntime code [1]) rfl, receive_accepted h .stationReset hlen, acceptFrame_runtimeReset]
  · rw [lookup_takeRuntimeReset]
    exact lookup_abort_foldl k s.records { s with uplink := [] } rfl hrel.docks.2.1 hs

end Sys2Proof.Machine
end

section
/-! Records at their docks: what the removal of one leaves, and the updates that commute with a change of a dock context (R83). -/

namespace Sys2Proof.Machine

variable {s : State} {d : DockNo} {r : Record}

/-! ## One dock context -/

theorem modCtx_eq_self {f : DockContext → DockContext} (h : f (s.ctx d) = s.ctx d) : s.modCtx d f = s := by
  have hset : s.ctxs.set d (s.ctx d) = s.ctxs := by simp [State.ctx, Vector.get]
  rw [State.modCtx, h, hset]

theorem refundFor_modCtx (s : State) (r : Record) (d : DockNo) (f : DockContext → DockContext) :
    (s.refundFor r).modCtx d f = (s.modCtx d f).refundFor r := by
  cases hr : r.rider with
  | none => simp only [State.refundFor, hr]
  | some k => rw [refundFor_some hr, refundFor_some hr, modRider_modCtx]

theorem eraseRecord_modCtx (s : State) (n : Half) (d : DockNo) (f : DockContext → DockContext) :
    (s.eraseRecord n).modCtx d f = (s.modCtx d f).eraseRecord n := rfl

/-! ## The record that names a dock -/

theorem recordAt_congr {t : State} (h : t.records = s.records) (d : DockNo) : t.recordAt d = s.recordAt d := by
  rw [State.recordAt, h, State.recordAt]

/-- Only a LIFTED report carries the bike id (R102). -/
theorem reportOf_eq (r : Record) {outcome : RelOutcome} (h : outcome ≠ .lifted) (detail : ReportDetail) :
    Uplink.releaseReport (reportOf r outcome detail) = reportFor r outcome detail := by
  simp [reportOf, reportFor, h]

/-- The removal of the record that names a dock, with the rider's counts given back. -/
theorem removeAt_refunded (h : s.recordAt d = some r) {outcome : RelOutcome} (ho : outcome ≠ .lifted) (detail : ReportDetail)
    (move : State → State) : s.removeAt d true (some (outcome, detail)) move =
      (move (((s.refundFor r).offer (reportFor r outcome detail)).eraseRecord r.number)).dropTest r.rider := by
  rw [State.removeAt, h, ← reportOf_eq r ho]
  rfl

/-- The removal of the record that names a dock, with no change to an entry. -/
theorem removeAt_kept (h : s.recordAt d = some r) {outcome : RelOutcome} (ho : outcome ≠ .lifted) (detail : ReportDetail)
    (move : State → State) : s.removeAt d false (some (outcome, detail)) move =
      (move ((s.offer (reportFor r outcome detail)).eraseRecord r.number)).dropTest r.rider := by
  rw [State.removeAt, h, ← reportOf_eq r ho]
  rfl

/-- The removal of the record that names a dock at a fault: the rider's counts are given back unless it was REFERRED (R92). -/
theorem removeAt_unlessReferred (h : s.recordAt d = some r) {outcome : RelOutcome} (ho : outcome ≠ .lifted)
    (detail : ReportDetail) (move : State → State) : s.removeAt d (r.state != .referred) (some (outcome, detail)) move =
      (move (((if r.state = .referred then s else s.refundFor r).offer (reportFor r outcome detail)).eraseRecord
        r.number)).dropTest r.rider := by
  by_cases hr : r.state = .referred
  · rw [if_pos hr, hr]
    exact removeAt_kept h ho detail move
  · rw [if_neg hr, bne_iff_ne.2 hr]
    exact removeAt_refunded h ho detail move

/-- The report of a removal by a lift carries the record's bike id (R95, R102). -/
theorem removeAt_lifted (h : s.recordAt d = some r) (move : State → State) :
    s.removeAt d false (some (.lifted, .nothing)) move =
      (move ((s.offer (.releaseReport (reportOf r .lifted .nothing))).eraseRecord r.number)).dropTest r.rider := by
  rw [State.removeAt, h]
  rfl

end Sys2Proof.Machine
end

section
/-! Dock Contexts: lifts, misses, acknowledged and failed orders, by the dock's state (R47, R49, R51, R52, R93 to R97). -/

namespace Sys2Proof.Machine

variable {s : State} {d : DockNo} {r : Record}

/-! ## A lift at the dock (R47) -/

section
variable (before : Presence)

theorem liftAt_vacant (h : (s.ctx d).state = .vacant) : s.liftAt d before = s := by rw [State.liftAt, h]

theorem liftAt_holding (h : (s.ctx d).state = .holding) (ho : (s.ctx d).owed = none) : s.liftAt d before =
    (s.tellDock d (.forcedLift (s.ctx d).bikeId)).modCtx d fun c => (c.withdraw.moveTo .vacant).setLight .dark := by
  rw [State.liftAt, h, ho]

theorem liftAt_holding_owed (h : (s.ctx d).state = .holding) {o : Owed} (ho : (s.ctx d).owed = some o) : s.liftAt d before =
    (s.lateLiftAt d o).modCtx d fun c => (c.moveTo .vacant).setLight .dark := by
  rw [State.liftAt, h, ho]

theorem liftAt_closed_owed (h : (s.ctx d).state = .closed) {o : Owed} (ho : (s.ctx d).owed = some o) :
    s.liftAt d before = s.lateLiftAt d o := by
  rw [State.liftAt, h, ho]

/-- A lift out of service is a FORCED_LIFT of a bicycle that the dock showed before. -/
theorem liftAt_outOfService (h : (s.ctx d).state = .closed ∨ (s.ctx d).state = .faulted) (ho : (s.ctx d).owed = none) :
    s.liftAt d before = (if before = .present then s.tellDock d (.forcedLift (s.ctx d).bikeId) else s).modCtx d
      DockContext.withdraw := by
  rcases h with h | h
  · rw [State.liftAt, h, ho]
  · rw [State.liftAt, h]

theorem liftAt_checking (h : (s.ctx d).state = .checking) : s.liftAt d before =
    s.removeAt d false (some (.abandoned, .nothing)) fun t =>
      (t.tellDock d (.forcedLift (s.ctx d).bikeId)).modCtx d fun c => (c.moveTo .vacant).setLight .dark := by
  rw [State.liftAt, h]

theorem liftAt_opening (h : (s.ctx d).state = .opening) : s.liftAt d before =
    s.removeAt d false (some (.lifted, .nothing)) fun t =>
      t.modCtx d fun c => (c.withdraw.moveTo .vacant).setLight .dark := by
  rw [State.liftAt, h]

theorem liftAt_opened (h : (s.ctx d).state = .opened) : s.liftAt d before =
    s.removeAt d false (some (.lifted, .nothing)) fun t => t.modCtx d fun c => (c.moveTo .vacant).setLight .dark := by
  rw [State.liftAt, h]

end

theorem lateLift_entry (charged : Bool) : (fun e : RiderEntry => e.lateLift charged) = fun e =>
    { e with bikesOut := min 15 (e.bikesOut + 1), allowance := if charged then e.allowance - 1 else e.allowance } := by
  cases charged <;> rfl

/-- Settles O47: the lift by the dock's state, and by its record where one names it. -/
theorem liftAtTheDock : Obligations.LiftAtTheDock := by
  rintro s d before vacant rfl forced rfl
  refine ⟨liftAt_vacant before, liftAt_holding before, liftAt_outOfService before, fun o ho t ht => ?_, ?_⟩
  · have hlate : s.lateLift d o = t := by
      simp only [ht, State.lateLift, lateLiftReport]
      cases o.rider with
      | none => rfl
      | some k =>
        dsimp only
        rw [lateLift_entry, modRider_ctx]
    refine ⟨fun h => ?_, fun h => ?_⟩
    · rw [liftAt_holding_owed before h ho, State.lateLiftAt, hlate, modCtx_modCtx]
      rfl
    · rw [liftAt_closed_owed before h ho, State.lateLiftAt, hlate]
      rfl
  · rintro r hs hr rfl
    have hat := recordAt_eq hs.docks hr
    have hdock := state_of_record hs.docks hr
    refine ⟨fun hst => ?_, fun _ report hreport => ⟨fun hst => ?_, fun hst => ?_⟩⟩
    · rw [hst] at hdock
      rw [liftAt_checking before hdock, removeAt_kept hat (by decide)]
      rfl
    · rw [hst] at hdock
      rw [liftAt_opening before hdock, removeAt_lifted hat, hreport]
      rfl
    · rw [hst] at hdock
      rw [liftAt_opened before hdock, removeAt_lifted hat, hreport]
      rfl

/-! ## Acknowledged and failed orders (R51, R52, R93, R94) -/

theorem replyAck_other {x : Reply} (h : x.serial ≠ (s.ctx d).serial ∨ (s.ctx d).order = none) : s.replyAck d x = s := by
  unfold State.replyAck
  by_cases hserial : x.serial = (s.ctx d).serial
  · rw [if_pos hserial, h.resolve_left (not_not_intro hserial)]
  · rw [if_neg hserial]

theorem replyAck_relatch {x : Reply} (h : x.serial = (s.ctx d).serial) (ho : (s.ctx d).order = some .relatch) :
    s.replyAck d x = s.modCtx d fun c => { c.withdraw with owed := none } := by
  unfold State.replyAck
  rw [if_pos h, ho]

theorem replyAck_unlatch {x : Reply} (h : x.serial = (s.ctx d).serial) (ho : (s.ctx d).order = some .unlatch)
    (hst : (s.ctx d).state = .opening) :
    s.replyAck d x = (s.openRecordAt d).modCtx d fun c => { c.withdraw with state := .opened } := by
  unfold State.replyAck
  rw [if_pos h, ho]
  exact if_pos hst

theorem orderFailed_relatch (ho : (s.ctx d).order = some .relatch) (hst : (s.ctx d).state = .holding ∨
    (s.ctx d).state = .unseen ∨ (s.ctx d).state = .vacant ∨ (s.ctx d).state = .closed) :
    s.orderFailed d = s.modCtx d DockContext.fail := by
  rcases hst with h | h | h | h <;> rw [State.orderFailed, ho, h]

theorem orderFailed_relatch_checking (ho : (s.ctx d).order = some .relatch) (hst : (s.ctx d).state = .checking) :
    s.orderFailed d = s.modCtx d DockContext.withdraw := by
  rw [State.orderFailed, ho, hst]

theorem orderFailed_unlatch (ho : (s.ctx d).order = some .unlatch) (hst : (s.ctx d).state = .opening) : s.orderFailed d =
    s.removeAt d true (some (.fault, .unlatchFailed)) fun t => t.modCtx d DockContext.fail := by
  rw [State.orderFailed, ho, hst]

/-- Settles O48: the echo by the order in the slot, the failure by the order and the dock's state. -/
theorem acknowledgedAndFailedOrders : Obligations.AcknowledgedAndFailedOrders := by
  refine ⟨fun s d x => ⟨replyAck_other, fun h => ⟨replyAck_relatch h, ?_⟩⟩, ?_⟩
  · rintro r ho hs hr rfl hst
    have hdock := state_of_record hs.docks hr
    rw [hst] at hdock
    rw [replyAck_unlatch h ho hdock, State.openRecordAt, recordAt_eq hs.docks hr]
    rfl
  · rintro s d faulted rfl
    refine ⟨fun ho => ⟨orderFailed_relatch ho, orderFailed_relatch_checking ho⟩, ?_⟩
    rintro r ho hs hr rfl hst
    have hdock := state_of_record hs.docks hr
    rw [hst] at hdock
    rw [orderFailed_unlatch ho hdock, removeAt_refunded (recordAt_eq hs.docks hr) (by decide)]
    rfl

/-! ## Misses (R49, R92, R100, R138) -/

theorem eighthMiss_absent (h : (s.ctx d).state = .absent) : s.eighthMiss d = s := by rw [State.eighthMiss, h]

theorem eighthMiss_outOfService (h : (s.ctx d).state = .closed ∨ (s.ctx d).state = .faulted) :
    s.eighthMiss d = (s.modCtx d DockContext.goSilent).tellDock d .absent := by
  rcases h with h | h <;> rw [State.eighthMiss, h]

theorem eighthMiss_unnamed (h : (s.ctx d).state = .unseen ∨ (s.ctx d).state = .vacant ∨ (s.ctx d).state = .holding) :
    s.eighthMiss d = (s.modCtx d fun c => c.goSilent.moveTo .absent).tellDock d .absent := by
  rcases h with h | h | h <;> rw [State.eighthMiss, h]

theorem eighthMiss_named {st : RecState} (h : (s.ctx d).state = stateOfRecord st) : s.eighthMiss d =
    (s.removeAt d (st != .referred) (some (.fault, .dockAbsent)) fun t =>
      t.modCtx d fun c => c.goSilent.moveTo .absent).tellDock d .absent := by
  cases st <;> (rw [State.eighthMiss, h]; rfl)

/-- Settles O49: the miss count first, then the eighth miss by the dock's state and its record. -/
theorem missesAndTheEighth : Obligations.MissesAndTheEighth := by
  rintro s d silent rfl gone rfl
  have hstate : ((s.modCtx d fun c => { c with missCount := 8 }).ctx d).state = (s.ctx d).state := by rw [ctx_modCtx_self]
  refine ⟨fun h => ?_, fun h => ?_, fun h => ?_⟩
  · rw [State.takeMiss, if_neg (by omega)]
    refine modCtx_congr ?_
    rw [Nat.min_eq_right (by omega)]
  · rw [State.takeMiss, if_neg (by omega)]
    refine modCtx_eq_self ?_
    rw [h]
    exact (congrArg (fun n => { s.ctx d with missCount := n }) h).symm
  · have htake : s.takeMiss d = (s.modCtx d fun c => { c with missCount := 8 }).eighthMiss d := by rw [State.takeMiss, if_pos h]
    rw [htake]
    refine ⟨fun hst => eighthMiss_absent (hstate.trans hst), fun hst => ?_, fun hst => ?_, ?_⟩
    · rw [eighthMiss_outOfService (by rwa [hstate]), modCtx_modCtx]
      rfl
    · rw [eighthMiss_unnamed (by rwa [hstate]), modCtx_modCtx]
      rfl
    · rintro r hs hr rfl
      have hat : (s.modCtx r.dock fun c => { c with missCount := 8 }).recordAt r.dock = some r :=
        (recordAt_congr rfl _).trans (recordAt_eq hs.docks hr)
      rw [eighthMiss_named (hstate.trans (state_of_record hs.docks hr)), removeAt_unlessReferred hat (by decide),
        ← refundFor_modCtx, ← apply_ite (fun t : State => t.modCtx r.dock _), ← offer_modCtx, ← eraseRecord_modCtx,
        modCtx_modCtx]
      rfl

end Sys2Proof.Machine
end

section
/-! A good reply at the Dock Contexts: its status (R45, R46, R48) and its event (R55, R56). -/

namespace Sys2Proof.Machine

variable {s : State} {d : DockNo} {r : Reply}

/-! ## The latch-open check (R46, R48) -/

/-- The latch-open check reads the latch that the reply shows. -/
theorem closeLatch_mirror (c : DockContext) (r : Reply) : (c.mirror r).closeLatch =
    if (c.state = .holding ∨ c.state = .closed) ∧ r.latchClosed = false ∧ c.order = none ∧ c.owed = none then
      (c.mirror r).setOrder .relatch
    else c.mirror r := by
  have hlatch : (c.mirror r).latch = .opened ↔ r.latchClosed = false := by
    cases h : r.latchClosed <;> simp [DockContext.mirror, h]
  exact if_congr (and_congr_right fun _ => and_congr_left fun _ => hlatch) rfl rfl

/-! ## The presence transition and what it leaves to the status (R46) -/

/-- The dock of a first good reply, or of one after absence, but for the status it shows. -/
def DockContext.appear (c : DockContext) (bike : Bool) : DockContext :=
  (c.moveTo (if bike then .holding else .vacant)).setLight .dark

theorem presenceAt_appear (h : (s.ctx d).state = .unseen ∨ (s.ctx d).state = .absent) : s.presenceAt d r =
    (s.offer (.dockEvent d (.present r.latchClosed r.bike r.bikeId))).modCtx d fun c => c.appear r.bike := if_pos h

theorem presenceAt_seen (hu : (s.ctx d).state ≠ .unseen) (ha : (s.ctx d).state ≠ .absent) : s.presenceAt d r =
    if ((s.ctx d).state = .closed ∨ (s.ctx d).state = .faulted) ∧ (s.ctx d).missCount = 8 then
      s.offer (.dockEvent d (.present r.latchClosed r.bike r.bikeId))
    else s := if_neg fun h => h.elim hu ha

/-- A dock that has just appeared stands in the state that the bicycle gives it: no lift, no arrival. -/
theorem statusAt_appeared (h : (s.ctx d).state = if r.bike then .holding else .vacant) (before : Presence) :
    s.statusAt d r before = s := by
  unfold State.statusAt
  cases hb : r.bike with
  | false =>
    rw [hb] at h
    simp [liftAt_vacant before h]
  | true =>
    rw [hb] at h
    have harrive : s.arriveAt d r.bikeId = s := by
      rw [State.arriveAt, h]
      rfl
    simp [h, harrive]

/-- The status of a first good reply, or of one after absence. -/
theorem replyStatus_appear (h : (s.ctx d).state = .unseen ∨ (s.ctx d).state = .absent) : s.replyStatus d r =
    (s.offer (.dockEvent d (.present r.latchClosed r.bike r.bikeId))).modCtx d fun c =>
      ((c.appear r.bike).mirror r).closeLatch := by
  rw [State.replyStatus, presenceAt_appear h, statusAt_appeared (by rw [ctx_modCtx_self]; rfl), modCtx_modCtx]
  rfl

/-! ## The status at a dock that has been seen (R47, R48) -/

theorem statusAt_reseat (hb : r.bike = true) (h : (s.ctx d).state = .opened) (hl : r.latchClosed = true) (before : Presence) :
    s.statusAt d r before = s.reseatAt d := by
  rw [State.statusAt, if_pos hb, if_pos h, if_pos hl]

theorem statusAt_unlatched (hb : r.bike = true) (h : (s.ctx d).state = .opened) (hl : r.latchClosed = false) (before : Presence) :
    s.statusAt d r before = s := by
  rw [State.statusAt, if_pos hb, if_pos h, hl]
  rfl

theorem statusAt_bike (hb : r.bike = true) (h : (s.ctx d).state ≠ .opened) (before : Presence) :
    s.statusAt d r before = if before = .absent then s.arriveAt d r.bikeId else s := by
  rw [State.statusAt, if_pos hb, if_neg h]

theorem statusAt_noBike (hb : r.bike = false) (before : Presence) :
    s.statusAt d r before = if before = .present then s.liftAt d .present else s := by
  rw [State.statusAt, hb]
  cases before <;> rfl

/-! ## Arrivals and re-seats (R48, R98) -/

section
variable (bikeId : Option Word)

theorem arriveAt_vacant (h : (s.ctx d).state = .vacant) : s.arriveAt d bikeId =
    (s.tellDock d (.docked bikeId)).modCtx d fun c => (c.showBike.moveTo .holding).setLight .dark := by
  rw [State.arriveAt, h]

theorem arriveAt_outOfService (h : (s.ctx d).state = .closed ∨ (s.ctx d).state = .faulted) : s.arriveAt d bikeId =
    (s.tellDock d (.docked bikeId)).modCtx d DockContext.showBike := by
  rcases h with h | h <;> rw [State.arriveAt, h]

theorem arriveAt_else (h : (s.ctx d).state = .holding ∨ (s.ctx d).state = .checking ∨ (s.ctx d).state = .opening) :
    s.arriveAt d bikeId = s := by
  rcases h with h | h | h <;> rw [State.arriveAt, h]

end

/-- Settles O45: the dock that appears, then the dock that has been seen, its status branch by branch. -/
theorem statusOfAGoodReply : Obligations.StatusOfAGoodReply := by
  refine ⟨?_, ?_, fun s d bikeId => ⟨?_, arriveAt_vacant bikeId, arriveAt_outOfService bikeId, arriveAt_else bikeId⟩⟩
  · rintro s d r hst seen rfl told rfl
    rw [replyStatus_appear hst]
    refine ⟨fun hb hl ho hw => modCtx_congr ?_, fun hnot => modCtx_congr ?_⟩
    · rw [offer_ctx, closeLatch_mirror, if_pos ⟨.inl (by rw [DockContext.appear, hb]; rfl), hl, ho, hw⟩]
      rfl
    · rw [offer_ctx, closeLatch_mirror, if_neg]
      · rfl
      · rintro ⟨hheld, hl, ho, hw⟩
        rcases hnot with hb | hl' | ho' | hw'
        · rw [DockContext.appear, hb] at hheld
          exact hheld.elim nofun nofun
        · simp [hl] at hl'
        · exact ho' ho
        · exact hw' hw
  · rintro s d r hu ha told htold mirrored rfl settled hsettled
    have hpresence : s.presenceAt d r = told := by rw [presenceAt_seen hu ha, htold]
    have hstate : (told.ctx d).state = (s.ctx d).state := by rw [htold]; split <;> simp
    have hlast : ∀ t : State, (t.modCtx d fun c => (c.mirror r).closeLatch) = settled t := fun t => by
      rw [hsettled]
      dsimp only
      split
      · next h =>
        rw [modCtx_modCtx]
        refine modCtx_congr ?_
        rw [closeLatch_mirror, if_pos h]
        rfl
      · next h =>
        refine modCtx_congr ?_
        rw [closeLatch_mirror, if_neg h]
        rfl
    rw [State.replyStatus, hpresence, hlast]
    refine ⟨fun hb ho => ⟨fun hl => ?_, fun hl => ?_⟩, fun hb ho => ⟨fun hbefore => ?_, fun hbefore => ?_⟩,
      fun hb => ⟨fun hbefore => ?_, fun hbefore => ?_⟩⟩
    · rw [statusAt_reseat hb (hstate.trans ho) hl]
    · rw [statusAt_unlatched hb (hstate.trans ho) hl]
    · rw [statusAt_bike hb (by rwa [hstate]), if_pos hbefore]
    · rw [statusAt_bike hb (by rwa [hstate]), if_neg hbefore]
    · rw [statusAt_noBike hb, if_pos hbefore]
    · rw [statusAt_noBike hb, if_neg hbefore]
  · rintro r hs hr rfl
    rw [State.reseatAt, removeAt_refunded (recordAt_eq hs.docks hr) (by decide)]
    rfl

/-! ## A fault of the dock head (R56, R92, R100) -/

section
variable (code : Byte)

theorem faultEvent_outOfService (h : (s.ctx d).state = .closed ∨ (s.ctx d).state = .faulted) :
    s.faultEvent d code = s.tellDock d (.headFault code) := by
  rw [← tellDock_state s d (.headFault code)] at h
  rcases h with h | h <;> rw [State.faultEvent, h]

theorem faultEvent_unnamed (h : (s.ctx d).state = .holding ∨ (s.ctx d).state = .vacant) :
    s.faultEvent d code = (s.tellDock d (.headFault code)).modCtx d DockContext.fail := by
  rw [← tellDock_state s d (.headFault code)] at h
  rcases h with h | h <;> rw [State.faultEvent, h]

theorem faultEvent_named {st : RecState} (h : (s.ctx d).state = stateOfRecord st) : s.faultEvent d code =
    (s.tellDock d (.headFault code)).removeAt d (st != .referred) (some (.fault, .headFault code)) fun t =>
      t.modCtx d DockContext.fail := by
  rw [← tellDock_state s d (.headFault code)] at h
  cases st <;> (rw [State.faultEvent, h]; rfl)

end

/-- Settles O46: the event by its kind, a fault by the dock's state and its record. -/
theorem eventOfAGoodReply : Obligations.EventOfAGoodReply := by
  intro s d r before
  refine ⟨fun he => ?_, fun t he => ?_, fun he => ?_, fun he => ?_, ?_⟩
  · rw [State.replyEvent, he]
  · rw [State.replyEvent, he]
  · have hlift : s.replyEvent d r before = s.liftEvent d before := by rw [State.replyEvent, he]
    rw [hlift, State.liftEvent]
    exact ⟨fun h => if_pos h, fun hv ha => if_neg fun h => h.elim hv ha⟩
  · have hdocked : s.replyEvent d r before = s.dockedEvent d r before := by rw [State.replyEvent, he]
    rw [hdocked, State.dockedEvent]
    refine ⟨fun h => if_pos h, fun h => ?_⟩
    rw [if_neg h]
    exact ⟨fun hb ha => if_pos ⟨hb, ha⟩, fun hnot => if_neg fun ⟨hb, ha⟩ => hnot.elim (by simp [hb]) (absurd ha)⟩
  · rintro code he told rfl faulted rfl
    have hfault : s.replyEvent d r before = s.faultEvent d code := by rw [State.replyEvent, he]
    rw [hfault]
    refine ⟨faultEvent_outOfService code, faultEvent_unnamed code, ?_⟩
    rintro x hs hx rfl
    have hat : (s.tellDock x.dock (.headFault code)).recordAt x.dock = some x :=
      (recordAt_congr (offer_records _ _) _).trans (recordAt_eq hs.docks hx)
    rw [faultEvent_named code (state_of_record hs.docks hx), removeAt_unlessReferred hat (by decide)]
    rfl

end Sys2Proof.Machine
end

section
/-! Dock orders: what is received as a DOCK_ORDER, and each action by the dock's state (R57 to R61, R99). -/

namespace Sys2Proof.Machine

variable {s : State} {d : DockNo}

/-! ## A DOCK_ORDER received (R57, R173) -/

/-- Whichever command carries it, a DOCK_ORDER is taken by its body, after its acceptance. -/
theorem exec_dockOrder {i : Instr} {code : Half} {dock action : Byte} (h : frameOf i = some (.dockOrder, code, [dock, action]))
    (hl : Listening s code) : exec i s = .next (takeDockOrder [dock, action] s.heard) := by
  have hlen : [dock, action].length ≤ 1024 := by simp
  rw [exec_of_frameOf h, receive_accepted hl .dockOrder hlen]
  rfl

/-- An acceptance writes a context's unsent mark alone. -/
theorem heard_ctx_eq (s : State) (d : DockNo) : ∃ unsent, s.heard.ctx d = { s.ctx d with unsent := unsent } := by
  rw [heard_ctx]
  split
  · exact ⟨true, rfl⟩
  · exact ⟨(s.ctx d).unsent, rfl⟩

/-- An acceptance leaves a reading of a context that the unsent mark does not enter. -/
theorem heard_ctx_keeps {α : Type} (g : DockContext → α) (hg : ∀ c u, g { c with unsent := u } = g c) (s : State)
    (d : DockNo) : g (s.heard.ctx d) = g (s.ctx d) := by
  obtain ⟨u, h⟩ := heard_ctx_eq s d
  rw [h, hg]

section
variable (s) (d)

@[simp] theorem heard_ctx_state : (s.heard.ctx d).state = (s.ctx d).state :=
  heard_ctx_keeps DockContext.state (fun _ _ => rfl) s d
@[simp] theorem heard_ctx_bikePresent : (s.heard.ctx d).bikePresent = (s.ctx d).bikePresent :=
  heard_ctx_keeps DockContext.bikePresent (fun _ _ => rfl) s d
@[simp] theorem heard_ctx_latch : (s.heard.ctx d).latch = (s.ctx d).latch :=
  heard_ctx_keeps DockContext.latch (fun _ _ => rfl) s d
@[simp] theorem heard_ctx_bikeId : (s.heard.ctx d).bikeId = (s.ctx d).bikeId :=
  heard_ctx_keeps DockContext.bikeId (fun _ _ => rfl) s d
@[simp] theorem heard_ctx_order : (s.heard.ctx d).order = (s.ctx d).order :=
  heard_ctx_keeps DockContext.order (fun _ _ => rfl) s d
@[simp] theorem heard_ctx_missCount : (s.heard.ctx d).missCount = (s.ctx d).missCount :=
  heard_ctx_keeps DockContext.missCount (fun _ _ => rfl) s d
@[simp] theorem heard_ctx_owed : (s.heard.ctx d).owed = (s.ctx d).owed :=
  heard_ctx_keeps DockContext.owed (fun _ _ => rfl) s d

end

/-! ## The bytes of an order (10.7) -/

theorem natByte_toNat (d : DockNo) : (natByte d.val).toNat = d.val := by
  have := d.isLt
  simp only [natByte, BitVec.toNat_ofNat]
  omega

theorem dockOfByte_of_eq {b : Byte} (h : d.val = b.toNat) : dockOfByte b = some d := by
  have := d.isLt
  rw [dockOfByte, dif_pos (by omega)]
  exact congrArg some (Fin.ext h.symm)

theorem natByte_of_eq {b : Byte} (h : d.val = b.toNat) : natByte d.val = b :=
  BitVec.eq_of_toNat_eq ((natByte_toNat d).trans h)

theorem dockOfByte_above {b : Byte} (h : 47 < b.toNat) : dockOfByte b = none := dif_neg (by omega)

theorem actionOf_eq_none {a : Byte} (h : a ∉ ([1, 2, 3, 4] : List Byte)) : actionOf a = none := by
  revert a
  decide

theorem actionOf_isSome {a : Byte} (h : a ∈ ([1, 2, 3, 4] : List Byte)) : ∃ x, actionOf a = some x := by
  simp only [List.mem_cons, List.not_mem_nil, or_false] at h
  rcases h with rfl | rfl | rfl | rfl
  · exact ⟨.release, rfl⟩
  · exact ⟨.relatch, rfl⟩
  · exact ⟨.outOfService, rfl⟩
  · exact ⟨.inService, rfl⟩

/-! ## The three checks (R57) -/

theorem takeDockOrder_badDock {b : Byte} (h : 47 < b.toNat) (a : Byte) :
    takeDockOrder [b, a] s = s.offer (.orderReply b a .badDock .unpolled none) := by
  have hdock : dockOfByte (byteAt [b, a] 0) = none := dockOfByte_above h
  rw [takeDockOrder, hdock]
  rfl

theorem takeDockOrder_badAction {b a : Byte} (h : d.val = b.toNat) (ha : actionOf a = none) :
    takeDockOrder [b, a] s = (s.refuseOrder .badAction).reply d a := by
  have hdock : dockOfByte (byteAt [b, a] 0) = some d := dockOfByte_of_eq h
  have haction : actionOf (byteAt [b, a] 1) = none := ha
  rw [takeDockOrder, hdock]
  dsimp only
  rw [haction]
  rfl

/-- An order of a known action at a dock. -/
theorem takeDockOrder_at {b a : Byte} {x : OrderAction} (h : d.val = b.toNat) (ha : actionOf a = some x) :
    takeDockOrder [b, a] s = (s.orderAt d x).reply d a := by
  have hdock : dockOfByte (byteAt [b, a] 0) = some d := dockOfByte_of_eq h
  have haction : actionOf (byteAt [b, a] 1) = some x := ha
  rw [takeDockOrder, hdock]
  dsimp only
  rw [haction]
  rfl

/-- An order of a known action at a polled dock, after its acceptance. -/
theorem exec_dockOrder_at {i : Instr} {code : Half} {action : Byte} {x : OrderAction}
    (h : frameOf i = some (.dockOrder, code, [natByte d.val, action])) (hl : Listening s code) (ha : actionOf action = some x) :
    exec i s = .next ((s.heard.orderAt d x).reply d action) := by
  rw [exec_dockOrder h hl, takeDockOrder_at (natByte_toNat d).symm ha]

theorem orderAt_unpolled (h : (s.ctx d).state = .unpolled) (x : OrderAction) : s.orderAt d x = s.refuseOrder .notPolled :=
  if_pos h

theorem reply_refuseOrder (outcome : OrderOutcome) (a : Byte) : (s.refuseOrder outcome).reply d a =
    s.offer (.orderReply (natByte d.val) a outcome (s.ctx d).state none) := rfl

/-- The reply carries the dock's state after the order. -/
theorem reply_done {t : State} {st : DockState} (h : (t.ctx d).state = st) (release : Option Half) (a : Byte) :
    OrderResult.reply { outcome := .done, after := t, release := release } d a =
      t.offer (.orderReply (natByte d.val) a .done st release) := by
  rw [← h]
  rfl

/-- Settles O27: the three checks in their order. -/
theorem dockOrdersThatAreNotTaken : Obligations.DockOrdersThatAreNotTaken := by
  intro i code b a s hi hl
  rw [exec_dockOrder hi hl]
  refine ⟨fun h => by rw [takeDockOrder_badDock h], fun d hd => ⟨fun ha => ?_, fun ha hst => ?_⟩⟩
  · rw [takeDockOrder_badAction hd (actionOf_eq_none ha), reply_refuseOrder, natByte_of_eq hd, heard_ctx_state]
  · obtain ⟨x, hx⟩ := actionOf_isSome ha
    have hun : (s.heard.ctx d).state = .unpolled := by rw [heard_ctx_state, hst]
    rw [takeDockOrder_at hd hx, orderAt_unpolled hun, reply_refuseOrder, natByte_of_eq hd, hun]

/-! ## RELEASE (R58, R82) -/

/-- The number found from a candidate upward, with every number passed over held by a record. -/
theorem freeNumber_passes (held : List Half) : ∀ (fuel : Nat) (c : Half), ∃ j ≤ fuel,
    freeNumber held fuel c = c + BitVec.ofNat 16 j ∧ ∀ i < j, c + BitVec.ofNat 16 i ∈ held
  | 0, c => ⟨0, Nat.le_refl 0, by simp [freeNumber], fun _ hi => absurd hi (Nat.not_lt_zero _)⟩
  | fuel + 1, c => by
    by_cases hc : c ∈ held
    · obtain ⟨j, hj, hfree, hpass⟩ := freeNumber_passes held fuel (c + 1)
      have hstep : ∀ i, c + 1 + BitVec.ofNat 16 i = c + BitVec.ofNat 16 (i + 1) := fun i => by
        rw [BitVec.add_assoc, BitVec.add_comm 1, BitVec.ofNat_add]
        rfl
      refine ⟨j + 1, Nat.succ_le_succ hj, ?_, fun i hi => ?_⟩
      · rw [freeNumber, if_pos hc, hfree, hstep]
      · cases i with
        | zero => simpa using hc
        | succ i => exact hstep i ▸ hpass i (Nat.lt_of_succ_lt_succ hi)
    · exact ⟨0, Nat.zero_le _, by simp [freeNumber, hc], fun _ hi => absurd hi (Nat.not_lt_zero _)⟩

theorem orderAt_release (h : (s.ctx d).state ≠ .unpolled) : s.orderAt d .release = s.orderRelease d := if_neg h

theorem releasable_iff : s.releasable d = true ↔ (s.ctx d).state = .holding ∧ (s.ctx d).owed = none := by
  simp [State.releasable]

theorem orderRelease_refused (h : (s.ctx d).state ≠ .holding ∨ (s.ctx d).owed ≠ none) :
    s.orderRelease d = s.refuseOrder .refusedState := by
  refine if_pos (Bool.eq_false_iff.2 fun hr => ?_)
  obtain ⟨hst, ho⟩ := releasable_iff.1 hr
  exact h.elim (absurd hst) (absurd ho)

/-- A RELEASE at a dock that allows it goes by the room in the Release List. -/
theorem orderRelease_releasable (hst : (s.ctx d).state = .holding) (ho : (s.ctx d).owed = none) : s.orderRelease d =
    if 16 ≤ s.records.length then s.refuseOrder .noRoom
    else { outcome := .done, after := s.releaseDone d, release := some s.newNumber } := by
  rw [State.orderRelease, releasable_iff.2 ⟨hst, ho⟩, State.listFull]
  simp only [Bool.true_eq_false, if_false, decide_eq_true_iff]

theorem heard_newNumber (s : State) : s.heard.newNumber = s.newNumber := by
  rw [State.newNumber, heard_records, heard_nextNumber, State.newNumber]

/-- A RELEASE done after its acceptance: the REMOTE record, the next-number counter, the dock. -/
theorem releaseDone_heard (s : State) (d : DockNo) : s.heard.releaseDone d =
    { s.heard with nextNumber := s.newNumber + 1, records := s.records ++ [remoteRecord s d] }.modCtx d
      (granted s.newNumber) := by
  have hrecord : remoteRecord s.heard d = remoteRecord s d := by
    rw [remoteRecord, heard_newNumber, heard_ctx_bikeId, remoteRecord]
  rw [State.releaseDone, State.addRecord, hrecord, heard_newNumber, heard_records]
  rfl

/-- Settles O28: the order by the dock and the room; the number by the candidates passed over. -/
theorem releaseOrderAndItsNumber : Obligations.ReleaseOrderAndItsNumber := by
  refine ⟨fun i code d s hi hl hp => ?_, fun s hlen => ⟨fun r hr hn => ?_, ?_, fun r => ⟨rfl, rfl⟩⟩⟩
  · rw [exec_dockOrder_at hi hl rfl, orderAt_release (by rwa [heard_ctx_state])]
    refine ⟨fun hnot => ?_, fun hst ho => ?_⟩
    · rw [orderRelease_refused (by rwa [heard_ctx_state, heard_ctx_owed]), reply_refuseOrder, heard_ctx_state]
    · rw [orderRelease_releasable (by rw [heard_ctx_state, hst]) (by rw [heard_ctx_owed, ho]), heard_records]
      refine ⟨fun hfull => ?_, fun hroom new hnew => ?_⟩
      · rw [if_pos hfull, reply_refuseOrder, heard_ctx_state, hst]
      · have hrecord : new = remoteRecord s d := hnew
        rw [if_neg (by omega), releaseDone_heard, heard_newNumber, hrecord]
        exact congrArg _ (reply_done (by rw [ctx_modCtx_self]; rfl) _ _)
  · exact newNumber_fresh (s := s) (by omega) (List.mem_map.2 ⟨r, hr, hn⟩)
  · obtain ⟨j, hj, hnumber, hpass⟩ := freeNumber_passes (s.records.map Record.number) s.records.length s.nextNumber
    exact ⟨j, hj, hnumber, fun i hi => List.mem_map.1 (hpass i hi)⟩

/-! ## RELATCH, OUT_OF_SERVICE and IN_SERVICE (R59, R60, R61, R99) -/

theorem orderAt_relatch (h : (s.ctx d).state ≠ .unpolled) : s.orderAt d .relatch = s.orderRelatch d := if_neg h

theorem orderAt_outOfService (h : (s.ctx d).state ≠ .unpolled) : s.orderAt d .outOfService = s.orderOutOfService d := if_neg h

theorem orderAt_inService (h : (s.ctx d).state ≠ .unpolled) : s.orderAt d .inService = s.orderInService d := if_neg h

theorem orderRelatch_taken (h : (s.ctx d).state = .opening ∨ (s.ctx d).state = .opened) :
    s.orderRelatch d = { outcome := .done, after := s.withdrawRelatch d, release := none } := if_pos h

theorem orderRelatch_refused (hn : (s.ctx d).state ≠ .opening) (ho : (s.ctx d).state ≠ .opened) :
    s.orderRelatch d = s.refuseOrder .refusedState := if_neg fun h => h.elim hn ho

theorem orderOutOfService_checking (h : (s.ctx d).state = .checking) :
    s.orderOutOfService d = { outcome := .done, after := s.closeChecking d, release := none } := by
  rw [State.orderOutOfService, h]

theorem orderOutOfService_taken (h : (s.ctx d).state = .opening ∨ (s.ctx d).state = .opened) :
    s.orderOutOfService d = { outcome := .done, after := s.closeWithdraw d, release := none } := by
  rcases h with h | h <;> rw [State.orderOutOfService, h]

theorem orderOutOfService_unnamed (hp : (s.ctx d).state ≠ .unpolled) (hh : ¬Held (s.ctx d)) :
    s.orderOutOfService d = { outcome := .done, after := s.modCtx d DockContext.close, release := none } := by
  cases h : (s.ctx d).state with
  | unpolled => exact absurd h hp
  | checking => exact absurd (held_checking h) hh
  | opening => exact absurd (held_opening h) hh
  | opened => exact absurd (held_opened h) hh
  | unseen | absent | vacant | holding | closed | faulted => rw [State.orderOutOfService, h]

theorem orderInService_taken (h : (s.ctx d).state = .closed ∨ (s.ctx d).state = .faulted) :
    s.orderInService d = { outcome := .done, after := s.modCtx d DockContext.restore, release := none } := if_pos h

theorem orderInService_refused (hc : (s.ctx d).state ≠ .closed) (hf : (s.ctx d).state ≠ .faulted) :
    s.orderInService d = s.refuseOrder .refusedState := if_neg fun h => h.elim hc hf

/-! ### At a dock that a record names -/

/-- The order of a withdrawal: the record removed with its rider's counts given back, the dock moved, then the reply. -/
theorem reply_withdrawn {r : Record} (h : s.recordAt r.dock = some r) (action : OrderAction) {f : DockContext → DockContext}
    {st : DockState} (hf : ∀ c, (f c).state = st) (a : Byte) :
    OrderResult.reply { outcome := .done, release := none,
                        after := s.removeAt r.dock true (some (.withdrawn, .withdrawnBy action)) fun t => t.modCtx r.dock f }
        r.dock a =
      (((((s.refundFor r).offer (reportFor r .withdrawn (.withdrawnBy action))).eraseRecord r.number).modCtx r.dock f).dropTest
        r.rider).offer (.orderReply (natByte r.dock.val) a .done st none) := by
  rw [removeAt_refunded h (by decide)]
  exact reply_done (by rw [dropTest_ctx, ctx_modCtx_self, hf]) none a

/-- Settles O29: each order by the state of the record. -/
theorem ordersThatWithdraw : Obligations.OrdersThatWithdraw := by
  intro i code r s hl hs hr
  have hat : s.heard.recordAt r.dock = some r := (recordAt_congr (heard_records s) _).trans (recordAt_eq hs.docks hr)
  have hheld := hs.docks.held hr
  have hst : (s.heard.ctx r.dock).state = stateOfRecord r.state := (heard_ctx_state s _).trans (state_of_record hs.docks hr)
  have hpolled : (s.heard.ctx r.dock).state ≠ .unpolled := by rw [heard_ctx_state]; exact hheld.ne_unpolled
  have hgranted : r.state ≠ .referred → (s.heard.ctx r.dock).state = .opening ∨ (s.heard.ctx r.dock).state = .opened := by
    rw [hst]
    cases r.state with
    | referred => exact absurd rfl
    | opening => exact fun _ => .inl rfl
    | opened => exact fun _ => .inr rfl
  refine ⟨fun hrec hi => ?_, fun hrec hi => ?_, fun hrec hi => ?_, fun hrec hi => ?_, fun hi => ?_⟩
  · rw [exec_dockOrder_at hi hl rfl, orderAt_relatch hpolled, orderRelatch_taken (hgranted hrec)]
    exact congrArg _ (reply_withdrawn hat .relatch (f := DockContext.relatchHolding) (fun _ => rfl) 2)
  · rw [exec_dockOrder_at hi hl rfl, orderAt_outOfService hpolled, orderOutOfService_taken (hgranted hrec)]
    exact congrArg _ (reply_withdrawn hat .outOfService (f := fun c => (c.setOrder .relatch).close) (fun _ => rfl) 3)
  · rw [hrec] at hst
    rw [exec_dockOrder_at hi hl rfl, orderAt_outOfService hpolled, orderOutOfService_checking hst, State.closeChecking,
      removeAt_kept hat (by decide)]
    exact congrArg _ (reply_done (by rw [dropTest_ctx, ctx_modCtx_self]; rfl) none _)
  · rw [hrec] at hst
    rw [exec_dockOrder_at hi hl rfl, orderAt_relatch hpolled,
      orderRelatch_refused (by simp [hst, stateOfRecord]) (by simp [hst, stateOfRecord]), reply_refuseOrder, hst]
    rfl
  · rw [exec_dockOrder_at hi hl rfl, orderAt_inService hpolled, orderInService_refused (by rw [hst]; cases r.state <;> decide)
      (by rw [hst]; cases r.state <;> decide), reply_refuseOrder, heard_ctx_state]

/-! ### At a dock that no record names -/

section
variable {c : DockContext}

/-- A dock brought back into service anywhere but to HOLDING. -/
theorem restore_of_ne_holding {st : DockState} (h : c.serviceState = st) (hst : st ≠ .holding) :
    c.restore = { c with state := st, record := none, indicator := .dark, unsent := true } := by
  rw [← h] at hst ⊢
  exact if_neg hst

theorem restore_of_holding (h : c.serviceState = .holding) :
    c.restore = { c with state := .holding, record := none, indicator := .dark, unsent := true }.closeLatch := by
  rw [← h]
  exact if_pos h

theorem serviceState_silent (h : c.missCount = 8) : c.serviceState = .absent := if_pos h

theorem serviceState_unknown (h : c.missCount ≠ 8) (hb : c.bikePresent = .unknown) : c.serviceState = .unseen := by
  rw [DockContext.serviceState, if_neg h, hb]

theorem serviceState_present (h : c.missCount ≠ 8) (hb : c.bikePresent = .present) : c.serviceState = .holding := by
  rw [DockContext.serviceState, if_neg h, hb]

theorem serviceState_absent (h : c.missCount ≠ 8) (hb : c.bikePresent = .absent) : c.serviceState = .vacant := by
  rw [DockContext.serviceState, if_neg h, hb]

end

/-- Settles O30: each order by the dock's state, IN_SERVICE by the fields that give the state to go to. -/
theorem ordersAtADockWithoutARecord : Obligations.OrdersAtADockWithoutARecord := by
  rintro i code d s hl hp hh reply rfl h rfl
  have hpolled : (s.heard.ctx d).state ≠ .unpolled := by rwa [heard_ctx_state]
  have hfree : ¬Held (s.heard.ctx d) := by rwa [Held, heard_ctx_state]
  refine ⟨fun hi => ?_, fun hi => ?_, fun hi => ⟨fun hc hf => ?_, ?_⟩⟩
  · rw [exec_dockOrder_at hi hl rfl, orderAt_relatch hpolled, orderRelatch_refused (fun ho => hfree (held_opening ho))
      (fun ho => hfree (held_opened ho)), reply_refuseOrder, heard_ctx_state]
  · rw [exec_dockOrder_at hi hl rfl, orderAt_outOfService hpolled, orderOutOfService_unnamed hpolled hfree]
    exact congrArg _ (reply_done (by rw [ctx_modCtx_self]; rfl) none _)
  · rw [exec_dockOrder_at hi hl rfl, orderAt_inService hpolled, orderInService_refused (by rwa [heard_ctx_state])
      (by rwa [heard_ctx_state]), reply_refuseOrder, heard_ctx_state]
  · rintro hst goes rfl
    have hdone : ∀ (f : DockContext → DockContext) (st : DockState), (s.heard.ctx d).restore = f (s.heard.ctx d) →
        (f (s.heard.ctx d)).state = st →
        exec i s = .next ((s.heard.modCtx d f).offer (.orderReply (natByte d.val) 4 .done st none)) := fun f st hf hfst => by
      rw [exec_dockOrder_at hi hl rfl, orderAt_inService hpolled, orderInService_taken (by rwa [heard_ctx_state]),
        modCtx_congr hf]
      exact congrArg _ (reply_done (by rw [ctx_modCtx_self, hfst]) none _)
    rw [← heard_ctx_missCount, ← heard_ctx_bikePresent, ← heard_ctx_latch, ← heard_ctx_order, ← heard_ctx_owed]
    refine ⟨fun hm => ?_, fun hm => ⟨fun hb => ?_, fun hb => ?_, fun hb => ⟨fun hlatch ho hw => ?_, fun hnot => ?_⟩⟩⟩
    · exact hdone _ _ (restore_of_ne_holding (serviceState_silent hm) (by decide)) rfl
    · exact hdone _ _ (restore_of_ne_holding (serviceState_unknown hm hb) (by decide)) rfl
    · exact hdone _ _ (restore_of_ne_holding (serviceState_absent hm hb) (by decide)) rfl
    · have hlatched := restore_of_holding (serviceState_present hm hb)
      exact hdone _ _ (hlatched.trans (if_pos ⟨.inl rfl, hlatch, ho, hw⟩)) rfl
    · have hlatched := restore_of_holding (serviceState_present hm hb)
      refine hdone _ _ (hlatched.trans (if_neg ?_)) rfl
      rintro ⟨-, hlatch, ho, hw⟩
      exact hnot.elim (absurd hlatch) fun hnot => hnot.elim (absurd ho) (absurd hw)

end Sys2Proof.Machine
end

section
/-! A commit of DOCK or PARAM rows at the Dock Contexts, and what it leaves (R62, R157, R159). -/

namespace Sys2Proof.Machine

variable {s : State} {d : DockNo} {descs : Vector DockDesc 48} {p : Params}

/-! ## The rows and the contexts after a commit -/

theorem overlayDescs_get (s : State) (staging : List (Nat × List Word)) (d : DockNo) :
    (s.overlayDescs staging).get d =
      match stagedRow staging d.val with | some ws => readDockRow ws | none => s.desc d := by
  rw [State.overlayDescs, tabulate_get]
  cases stagedRow staging d.val <;> rfl

/-- A commit of DOCK or PARAM rows: both tables as they stand then, the contexts, the String Masters. -/
theorem commitRows_tables {l : Loader} (h : l.table = some .dock ∨ l.table = some .param) (s : State) :
    s.commitRows l = (s.commitDocks (s.newDescs l) (s.newParams l)).commitStrings s := by
  rcases h with h | h <;> simp only [State.commitRows, State.newDescs, State.newParams, h] <;> rfl

/-- A station with the String Masters and the Uplink Queue of another. -/
def State.withLinesOf (s t : State) : State :=
  { s with stringA := t.stringA, stringB := t.stringB, uplink := t.uplink, drops := t.drops }

/-- A commit's effects at the String Masters stay there and at the Uplink Queue (R146, R147). -/
theorem commitStrings_eq (new old : State) : new.commitStrings old = new.withLinesOf (new.commitStrings old) := by
  refine commitStrings_keeps (State.withLinesOf · (new.commitStrings old)) (fun s f => ?_) (fun s m x => ?_) new old
  · obtain ⟨u, n, h⟩ := offer_eq s f
    rw [h]
    rfl
  · cases m <;> rfl

/-! ## The move of one dock context (R62) -/

theorem commitCtx_unpolled (hwas : s.polled d = true) (hnow : polledOn (descs.get d) p d = false) (c : DockContext) :
    s.commitCtx descs p d c = c.moveOut .unpolled := if_pos ⟨hwas, hnow⟩

theorem address_ne (h : (s.desc d).aliasNo ≠ (descs.get d).aliasNo ∨ stringOf s.params d ≠ stringOf p d) :
    address s.descs s.params d ≠ address descs p d := fun ha => by
  simp only [address, Prod.mk.injEq] at ha
  obtain ⟨-, halias, hstring⟩ := ha
  exact h.elim (absurd halias) (absurd hstring)

/-- A dock that becomes polled, or changes its address, goes to UNSEEN. -/
theorem commitCtx_unseen (hnow : polledOn (descs.get d) p d = true) (h : s.polled d = false ∨
    (s.desc d).aliasNo ≠ (descs.get d).aliasNo ∨ stringOf s.params d ≠ stringOf p d) (c : DockContext) :
    s.commitCtx descs p d c = c.moveOut .unseen := by
  unfold State.commitCtx
  cases hwas : s.polled d with
  | false => simp [hnow]
  | true =>
    have hmoved := address_ne (h.resolve_left (by simp [hwas]))
    simp [hnow, hmoved]

/-- A dock that keeps its polled condition, and its address while polled, is at most marked unsent. -/
theorem commitCtx_kept (h : s.polled d = polledOn (descs.get d) p d)
    (ha : s.polled d = true → (s.desc d).aliasNo = (descs.get d).aliasNo ∧ stringOf s.params d = stringOf p d)
    (c : DockContext) : s.commitCtx descs p d c =
      if polledOn (descs.get d) p d = true ∧ s.condition = .islanded ∧ (s.desc d).mode ≠ (descs.get d).mode then
        { c with unsent := true }
      else c := by
  unfold State.commitCtx
  rw [← h]
  cases hwas : s.polled d with
  | false => simp
  | true =>
    obtain ⟨halias, hstring⟩ := ha hwas
    have hsame : address s.descs s.params d = address descs p d :=
      Prod.ext h (Prod.ext halias hstring)
    simp [hsame, State.isIslanded]

/-- Settles O17: the contexts moved by the addresses before and after, all the rest kept by the commit at the lines. -/
theorem dockCommitMovesTheDocks : Obligations.DockCommitMovesTheDocks := by
  intro l s hl t ht
  rw [commitRows_tables hl] at ht
  have hsame : t = (s.commitDocks (s.newDescs l) (s.newParams l)).withLinesOf t := by
    rw [ht]
    exact commitStrings_eq _ s
  have hdescs : t.descs = s.newDescs l := by rw [hsame]; rfl
  have hparams : t.params = s.newParams l := by rw [hsame]; rfl
  have hctx : ∀ d, t.ctx d = s.commitCtx (s.newDescs l) (s.newParams l) d (s.ctx d) := fun d => by
    rw [← ctx_mapCtxs s (s.commitCtx (s.newDescs l) (s.newParams l)), hsame]
    rfl
  have hdesc : ∀ d, t.desc d = (s.newDescs l).get d := fun d => by rw [State.desc, hdescs]
  have hpolled : ∀ d, t.polled d = polledOn ((s.newDescs l).get d) (s.newParams l) d := fun d => by
    rw [State.polled, hdesc, hparams]
  refine ⟨fun h => ⟨?_, fun d => ?_⟩, fun h => ⟨?_, hparams⟩, ?_, fun d moved hmoved => ?_⟩
  · rw [hparams, State.newParams, if_neg (by simp [h])]
  · rw [hdesc, State.newDescs, if_pos h]
    exact overlayDescs_get s l.staging d
  · rw [hdescs, State.newDescs, if_neg (by simp [h])]
  · rw [hsame]
    rfl
  · rw [hpolled, hdesc, hparams, hctx, hmoved]
    exact ⟨fun hwas hnow => commitCtx_unpolled hwas hnow _, fun hnow h => commitCtx_unseen hnow h _,
      fun h ha => commitCtx_kept h ha _⟩

end Sys2Proof.Machine
end

section
/-! The runtime reset at the Dock Contexts: each dock by the record that named it, if one did (R63, R104). -/

namespace Sys2Proof.Machine

variable {s : State} {d : DockNo}

/-! ## Every record removed -/

theorem ctx_abortRecord (s : State) (r : Record) (d : DockNo) : (s.abortRecord r).ctx d =
    if r.dock = d then (s.ctx r.dock).abort r.state else s.ctx d := by
  have hrefund : ∀ e, (if r.state != .referred then s.refundFor r else s).ctx e = s.ctx e := fun e => by
    split <;> simp
  unfold State.abortRecord State.removeRecord
  dsimp only
  rw [dropTest_ctx, ctx_modCtx, eraseRecord_ctx, eraseRecord_ctx, hrefund, hrefund]

theorem polled_abortRecord (s : State) (r : Record) (d : DockNo) : (s.abortRecord r).polled d = s.polled d := by
  unfold State.abortRecord State.removeRecord
  dsimp only
  rw [dropTest_polled, modCtx_polled, eraseRecord_polled]
  split <;> simp

theorem polled_abort_foldl (d : DockNo) : ∀ (rs : List Record) (s : State), (rs.foldl State.abortRecord s).polled d = s.polled d
  | [], _ => rfl
  | r :: rest, s => (polled_abort_foldl d rest _).trans (polled_abortRecord s r d)

theorem polled_abortAll (s : State) (d : DockNo) : s.abortAll.polled d = s.polled d := polled_abort_foldl d s.records s

theorem ctx_abort_foldl_other : ∀ {rs : List Record} (s : State), (∀ r ∈ rs, r.dock ≠ d) →
    (rs.foldl State.abortRecord s).ctx d = s.ctx d
  | [], _, _ => rfl
  | r :: rest, s, h => by
    obtain ⟨hr, hrest⟩ := List.forall_mem_cons.1 h
    rw [List.foldl_cons, ctx_abort_foldl_other _ hrest, ctx_abortRecord, if_neg hr]

/-- Each dock's record is removed once: its dock is changed by that removal alone. -/
theorem ctx_abort_foldl_named {rs : List Record} {x : Record} (s : State) (hn : (rs.map Record.dock).Nodup) (hx : x ∈ rs) :
    (rs.foldl State.abortRecord s).ctx x.dock = (s.ctx x.dock).abort x.state := by
  induction rs generalizing s with
  | nil => cases hx
  | cons r rest ih =>
    obtain ⟨hr, hrest⟩ := List.nodup_cons.1 hn
    rw [List.foldl_cons]
    rcases List.mem_cons.1 hx with rfl | hx
    · have hother : ∀ y ∈ rest, y.dock ≠ x.dock := fun y hy hd => hr (hd ▸ List.mem_map_of_mem hy)
      rw [ctx_abort_foldl_other _ hother, ctx_abortRecord, if_pos rfl]
    · have hne : r.dock ≠ x.dock := fun hd => hr (hd ▸ List.mem_map_of_mem hx)
      rw [ih _ hrest hx, ctx_abortRecord, if_neg hne]

/-! ## The reset -/

theorem ctxs_runtimeBlocks (s : State) :
    s.runtimeBlocks.ctxs = (s.abortAll.resetDocks (s.records.map Record.dock)).ctxs := by
  simp only [State.runtimeBlocks, State.resetString, setStr_ctxs]

/-- The contexts after the reset of the blocks: a polled dock is reset after the removal of the records. -/
theorem ctx_runtimeBlocks (s : State) (d : DockNo) : s.runtimeBlocks.ctx d =
    if s.polled d then (s.abortAll.ctx d).runtimeReset ((s.records.map Record.dock).contains d) else s.abortAll.ctx d := by
  rw [ctx_congr (ctxs_runtimeBlocks s), State.resetDocks, ctx_mapCtxs, polled_abortAll]

theorem polled_runtimeBlocks (s : State) (d : DockNo) : s.runtimeBlocks.polled d = s.polled d := by
  have hdescs : s.runtimeBlocks.descs = s.abortAll.descs := by
    simp only [State.runtimeBlocks, State.resetString, setStr_descs, State.resetDocks, mapCtxs_descs]
  have hparams : s.runtimeBlocks.params = s.abortAll.params := by
    simp only [State.runtimeBlocks, State.resetString, setStr_params, State.resetDocks, mapCtxs_params]
  rw [polled_congr hdescs hparams, polled_abortAll]

/-- An acceptance changes no context whose unsent mark is set where the dock is polled. -/
theorem heard_ctx_of_unsent (h : s.polled d = true → (s.ctx d).unsent = true) : s.heard.ctx d = s.ctx d := by
  rw [heard_ctx]
  split
  · next hmark =>
    obtain ⟨-, hp, -⟩ := hmark
    rw [← h hp]
  · rfl

/-- The contexts after the reset: its acceptance finds every polled dock unsent. -/
theorem ctx_takeRuntimeReset (s : State) (d : DockNo) : (takeRuntimeReset s).ctx d =
    if s.polled d then (({ s with uplink := [] } : State).abortAll.ctx d).runtimeReset ((s.records.map Record.dock).contains d)
    else ({ s with uplink := [] } : State).abortAll.ctx d := by
  rw [takeRuntimeReset, heard_ctx_of_unsent, offer_ctx]
  · exact ctx_runtimeBlocks _ d
  · intro hp
    rw [offer_polled, polled_runtimeBlocks] at hp
    rw [offer_ctx, ctx_runtimeBlocks, if_pos hp]
    rfl

theorem ctx_takeRuntimeReset_unpolled (hp : s.polled d = false) (hnone : ∀ r ∈ s.records, r.dock ≠ d) :
    (takeRuntimeReset s).ctx d = s.ctx d := by
  rw [ctx_takeRuntimeReset, if_neg (Bool.eq_false_iff.1 hp)]
  exact ctx_abort_foldl_other _ hnone

theorem ctx_takeRuntimeReset_unnamed (hp : s.polled d = true) (hnone : ∀ r ∈ s.records, r.dock ≠ d) :
    (takeRuntimeReset s).ctx d = (s.ctx d).runtimeReset false := by
  have hcontains : (s.records.map Record.dock).contains d = false := by simpa using hnone
  rw [ctx_takeRuntimeReset, if_pos hp, hcontains]
  exact congrArg (DockContext.runtimeReset · false) (ctx_abort_foldl_other _ hnone)

theorem ctx_takeRuntimeReset_named {r : Record} (hp : s.polled r.dock = true) (hn : (s.records.map Record.dock).Nodup)
    (hr : r ∈ s.records) : (takeRuntimeReset s).ctx r.dock = ((s.ctx r.dock).abort r.state).runtimeReset true := by
  have hcontains : (s.records.map Record.dock).contains r.dock = true := by simpa using ⟨r, hr, rfl⟩
  rw [ctx_takeRuntimeReset, if_pos hp, hcontains]
  exact congrArg (DockContext.runtimeReset · true) (ctx_abort_foldl_named _ hn hr)

/-- Settles O5: the dock by the record that named it, if one did. -/
theorem runtimeResetOfTheDocks : Obligations.RuntimeResetOfTheDocks := by
  intro code s h hs
  obtain ⟨-, -, hdocks, hnamed, -, -, hunpolled⟩ := hs
  refine ⟨takeRuntimeReset s, ?_, fun d hp => ?_, fun d hp => ⟨?_, ?_, ctx_takeRuntimeReset_unnamed hp⟩⟩
  · have hlen : [(1 : Byte)].length ≤ 1024 := by decide
    rw [exec_of_frameOf (i := .stationResetRuntime code [1]) rfl, receive_accepted h .stationReset hlen, acceptFrame_runtimeReset]
  · refine ctx_takeRuntimeReset_unpolled hp fun r hr hd => ?_
    have hheld : Held (s.ctx d) := held_iff.2 ⟨r.state, hd ▸ (hnamed r hr).1⟩
    exact hheld.ne_unpolled ((hunpolled d).2 hp)
  · rintro r hr rfl hst
    rw [ctx_takeRuntimeReset_named hp hdocks hr]
    cases hrec : r.state with
    | referred => exact absurd hrec hst
    | opening | opened => rfl
  · rintro r hr rfl hst
    rw [ctx_takeRuntimeReset_named hp hdocks hr, hst]
    rfl

end Sys2Proof.Machine
end

section
/-! Taps: the dock gate, the rider's checks, and the three outcomes (chapter 4). -/

namespace Sys2Proof.Machine

theorem isIslanded_iff {s : State} : s.isIslanded = true ↔ s.condition = .islanded := by simp [State.isIslanded]

theorem isIslanded_eq_false_iff {s : State} : s.isIslanded = false ↔ s.condition = .online :=
  ⟨online_of_not_islanded, fun h => by simp [State.isIslanded, h]⟩

/-! ## Refusals (R79) -/

/-- A refusal at steps 1 to 5, in the form of the statements. -/
theorem refuseQuiet_eq (s : State) (d : DockNo) (r : Reason) : s.refuseQuiet d r = s.modCtx d fun c =>
    { c with indicator := .red r 0, unsent := true, unreported := min 65535 (c.unreported + 1) } := rfl

/-- A refusal at steps 6 to 15, in the form of the statements. -/
theorem refuseReported_eq (s : State) (d : DockNo) (r : Reason) (rider : Key) (seq : Half) (cond : Option (Fin 4)) :
    s.refuseReported d r rider seq cond = (redAt s d r).offer (.tapRefused d r rider seq cond) := rfl

/-! ## The dock gate, the Release List, the token checks (R65 to R67) -/

/-- What the state of a dock answers a tap while the station does not close it (R65). -/
def stateRefusal (c : DockContext) : Option Reason :=
  match c.state with
  | .holding => if c.owed.isSome then some .dockBusy else none
  | .checking | .opening | .opened => some .dockBusy
  | .closed | .faulted => some .dockClosed
  | .vacant | .unpolled | .unseen | .absent => some .noBike

/-- The dock gate: a CLOSE dock of an islanded station, else the dock's state. -/
theorem gateRefusal_eq (s : State) (d : DockNo) : s.gateRefusal d =
    if s.condition = .islanded ∧ (s.desc d).mode = .close then some .dockClosed else stateRefusal (s.ctx d) := by
  simp only [State.gateRefusal, isIslanded_iff, stateRefusal]
  cases (s.ctx d).state <;> rfl

section
variable {s : State} {d : DockNo} {t : Token}

theorem admitTap_gateRefused {r : Reason} (h : s.gateRefusal d = some r) : s.admitTap d t = s.refuseQuiet d r := by
  simp [State.admitTap, h]

variable (hgate : s.gateRefusal d = none)
include hgate

theorem admitTap_listFull (h : 16 ≤ s.records.length) : s.admitTap d t = s.refuseQuiet d .stationFull := by
  simp [State.admitTap, hgate, State.listFull, h]

variable (hroom : s.records.length < 16)
include hroom

theorem admitTap_tokenRefused {r : Reason} (h : s.tokenCheck d t = .error r) :
    s.admitTap d t = if reported r then s.refuseReported d r t.rider t.seq none else s.refuseQuiet d r := by
  simp [State.admitTap, hgate, State.listFull, hroom, h]

theorem admitTap_tokenPassed {unchecked : Bool} (h : s.tokenCheck d t = .ok unchecked) :
    s.admitTap d t = s.riderTap d t unchecked := by
  simp [State.admitTap, hgate, State.listFull, hroom, h]

end

/-- Settles O51: the gate by the dock's state, then the Release List, then what the token checks end with. -/
theorem tapAtTheDockGate : Obligations.TapAtTheDockGate := by
  rintro s d t quiet rfl closed hclosed
  refine ⟨fun hc => admitTap_gateRefused ?_, fun hc => ?_⟩
  · rw [gateRefusal_eq, if_pos (hclosed.1 hc)]
  have hopen : s.gateRefusal d = stateRefusal (s.ctx d) := by rw [gateRefusal_eq, if_neg (mt hclosed.2 hc)]
  refine ⟨fun hst => ?vacant, fun hst => ?busy, fun hst => ?out, fun hst => ⟨fun howed => ?owed, fun hfree => ?holding⟩⟩
  case vacant => exact admitTap_gateRefused (by simp [hopen, stateRefusal, hst])
  case busy => exact admitTap_gateRefused (by rcases hst with hst | hst | hst <;> simp [hopen, stateRefusal, hst])
  case out => exact admitTap_gateRefused (by rcases hst with hst | hst <;> simp [hopen, stateRefusal, hst])
  case owed => exact admitTap_gateRefused (by simp [hopen, stateRefusal, hst, Option.isSome_iff_ne_none, howed])
  case holding =>
    have hgate : s.gateRefusal d = none := by simp [hopen, stateRefusal, hst, hfree]
    refine ⟨admitTap_listFull hgate, fun hroom => ⟨fun why h hwhy => ?_, fun why h hwhy => ?_,
      fun _ => admitTap_tokenPassed hgate hroom⟩⟩
    · have hquiet : reported why = false := by rcases hwhy with rfl | rfl | rfl <;> rfl
      simp [admitTap_tokenRefused hgate hroom h, hquiet, refuseQuiet_eq]
    · have hsent : reported why = true := by rcases hwhy with rfl | rfl | rfl | rfl <;> rfl
      simp [admitTap_tokenRefused hgate hroom h, hsent, refuseReported_eq]

/-! ## Class, e-bike, limit (R70, R71) -/

section
variable {s : State} {x : Tap}

theorem classTap_classLow (h : x.cls < (s.desc x.dock).minLevel) :
    s.classTap x = s.refuseReported x.dock .classLow x.rider x.seq none := by
  simp [State.classTap, h]

variable (hlevel : (s.desc x.dock).minLevel ≤ x.cls)
include hlevel

theorem classTap_ebikeNotAllowed (hkind : (s.desc x.dock).kind = .ebike) (h : (s.classRow x.cls).ebike = false) :
    s.classTap x = s.refuseReported x.dock .ebikeNotAllowed x.rider x.seq none := by
  simp [State.classTap, Fin.not_lt.2 hlevel, hkind, h]

variable (hbike : ¬((s.desc x.dock).kind = .ebike ∧ (s.classRow x.cls).ebike = false))
include hbike

theorem classTap_atLimit (h : (s.classRow x.cls).limit ≤ (x.known.map RiderEntry.bikesOut).getD 0) :
    s.classTap x = s.refuseReported x.dock .atLimit x.rider x.seq none := by
  rw [State.classTap, if_neg (Fin.not_lt.2 hlevel), if_neg hbike, if_pos h]

theorem classTap_decides (h : (x.known.map RiderEntry.bikesOut).getD 0 < (s.classRow x.cls).limit) :
    s.classTap x = s.decideTap x (conditionCode x.known (s.classRow x.cls)) := by
  rw [State.classTap, if_neg (Fin.not_lt.2 hlevel), if_neg hbike, if_neg (Nat.not_le.2 h)]

end

/-! ## Block list, rider, sequence (R68, R69) -/

/-- The effective class of an unknown rider is the claimed one (R13). -/
theorem tokenCls_eq {t : Token} {cls : Fin 4} (h : cls.val = t.claimed.toNat) : t.cls = cls := by
  simp only [Token.cls, Fin.ofNat, Fin.ext_iff]
  omega

section
variable {s : State} {d : DockNo} {t : Token} {unchecked : Bool}

theorem riderTap_blocked (h : s.isBlocked t.rider = true) :
    s.riderTap d t unchecked = s.refuseReported d .blocked t.rider t.seq none := by
  simp [State.riderTap, h]

variable (hfree : s.isBlocked t.rider = false)
include hfree

theorem riderTap_unknown (h : s.lookup t.rider = none) : s.riderTap d t unchecked = s.classTap
    { dock := d, rider := t.rider, seq := t.seq, unchecked := unchecked, cls := t.cls, known := none } := by
  simp [State.riderTap, hfree, h]

variable {e : RiderEntry} (he : s.lookup t.rider = some e)
include he

theorem riderTap_pending (h : e.dropPending = true) :
    s.riderTap d t unchecked = s.refuseReported d .riderPending t.rider t.seq none := by
  simp [State.riderTap, hfree, he, h]

variable (hkept : e.dropPending = false)
include hkept

theorem riderTap_replay (h : judgeSeq e.top e.used t.seq = .replay) :
    s.riderTap d t unchecked = s.refuseReported d .replay t.rider t.seq none := by
  simp [State.riderTap, hfree, he, hkept, h]

theorem riderTap_stale (h : judgeSeq e.top e.used t.seq = .stale) :
    s.riderTap d t unchecked = s.refuseReported d .stale t.rider t.seq none := by
  simp [State.riderTap, hfree, he, hkept, h]

theorem riderTap_accepted {top : Half} {used : List Half} (h : judgeSeq e.top e.used t.seq = .accepted top used) :
    s.riderTap d t unchecked = (s.modRider t.rider fun e => e.setWindow top used).classTap
      { dock := d, rider := t.rider, seq := t.seq, unchecked := unchecked, cls := e.cls,
        known := some (e.setWindow top used) } := by
  simp [State.riderTap, hfree, he, hkept, h]

end

/-- Settles O53: the checks of the class are those of the state that the accepted sequence has left, whose descriptors and
class rows are the tap's own. -/
theorem tapAtItsRider : Obligations.TapAtItsRider := by
  intro s d t unchecked told htold classed hclassed
  subst htold
  have hclass : ∀ (y : State) (cls : Fin 4) (known : Option RiderEntry), y.descs = s.descs → y.classes = s.classes →
      classed y cls known (y.classTap
        { dock := d, rider := t.rider, seq := t.seq, unchecked := unchecked, cls := cls, known := known }) := by
    intro y cls known hdescs hclasses
    have hdesc : s.desc d = y.desc d := congrArg (Vector.get · d) hdescs.symm
    have hrow : s.classRow cls = y.classRow cls := congrArg (Vector.get · cls) hclasses.symm
    rw [hclassed, hdesc, hrow]
    rintro row rfl out rfl
    refine ⟨fun hlow => ?low, fun hlevel => ⟨fun hkind hnot => ?ebike, fun hbike => ?passed⟩⟩
    case low => exact classTap_classLow hlow
    case ebike => exact classTap_ebikeNotAllowed hlevel hkind hnot
    case passed =>
      have hallowed : ¬((y.desc d).kind = .ebike ∧ (y.classRow cls).ebike = false) := by
        rintro ⟨hkind, hnot⟩
        exact hbike.elim (absurd hkind) (by simp [hnot])
      refine ⟨fun hout => ?_, fun hout c hc => ?_⟩
      · exact classTap_atLimit hlevel hallowed hout
      · subst hc
        exact classTap_decides hlevel hallowed hout
  refine ⟨fun hb => riderTap_blocked (isBlocked_iff.2 hb), fun hb => ?_⟩
  have hfree := isBlocked_eq_false_iff.2 hb
  refine ⟨fun hnone cls hcls => ?_, fun e he => ⟨riderTap_pending hfree he, fun hkept =>
    ⟨riderTap_replay hfree he hkept, riderTap_stale hfree he hkept, fun top used hj => ?_⟩⟩⟩
  · rw [riderTap_unknown hfree hnone, tokenCls_eq hcls]
    exact hclass s cls none rfl rfl
  · rw [riderTap_accepted hfree he hkept hj]
    exact hclass _ _ _ (modRider_descs ..) (modRider_classes ..)

/-! ## Grants and referrals (R76 to R78) -/

/-- The islanded-grant count that a grant leaves (R113). -/
def grantsAfter (s : State) (src : Source) : Nat :=
  if s.condition = .islanded ∧ src = .islanded then min 65535 (s.islandedGrants + 1) else s.islandedGrants

theorem countGrant_eq (s : State) (src : Source) :
    s.countGrant src = { s with islandedGrants := grantsAfter s src } := by
  simp only [State.countGrant, isIslanded_iff, grantsAfter]
  split <;> rfl

theorem modRider_setIslandedGrants (s : State) (n : Nat) (k : Key) (f : RiderEntry → RiderEntry) :
    { s.modRider k f with islandedGrants := n } = ({ s with islandedGrants := n } : State).modRider k f := by
  have hway : wayOf (({ s with islandedGrants := n } : State).bucket (bucketOf k)) k = wayOf (s.bucket (bucketOf k)) k := rfl
  unfold State.modRider
  rw [hway]
  cases wayOf (s.bucket (bucketOf k)) k <;> rfl

/-- The rider's entry of a grant, field by field. -/
theorem grantedTap_eq (e : RiderEntry) (charged : Bool) (now : Half) : e.grantedTap charged now =
    { e with bikesOut := min 15 (e.bikesOut + 1), lastUse := now,
             allowance := if charged then e.allowance - 1 else e.allowance } := by
  cases charged <;> rfl

/-- What a grant writes: the record and the islanded-grant count, then the rider's entry, then the dock. -/
theorem grantTap_countGrant (s : State) (x : Tap) (src : Source) (c : Fin 4) : (s.grantTap x src c).countGrant src =
    (({ s with records := s.records ++ [grantRecord s x src c], nextNumber := s.newNumber + 1,
               islandedGrants := grantsAfter s src } : State).modRider x.rider fun e =>
      { e with bikesOut := min 15 (e.bikesOut + 1), lastUse := nowOf s,
               allowance := if (s.classRow x.cls).charge then e.allowance - 1 else e.allowance }).modCtx x.dock
        (granted s.newNumber) := by
  have hcount : grantsAfter (s.grantTap x src c) src = grantsAfter s src := by
    simp [grantsAfter, State.grantTap, State.addRecord]
  rw [countGrant_eq, hcount, State.grantTap, modRider_modCtx, modRider_modCtx]
  simp only [grantedTap_eq]
  exact modRider_setIslandedGrants ..

section
variable {s : State} {x : Tap} {src : Source} {c : Fin 4}

theorem grantOrFull_known (h : c ≠ 2) : s.grantOrFull x src c = (s.grantTap x src c).countGrant src := if_neg h

theorem grantOrFull_inserted {p : State} (h : c = 2) (hp : s.createProvisional x.rider x.cls x.seq = some p) :
    s.grantOrFull x src c = (p.grantTap x src c).countGrant src := by
  simp [State.grantOrFull, h, hp]

theorem grantOrFull_tableFull (h : c = 2) (hn : s.createProvisional x.rider x.cls x.seq = none) :
    s.grantOrFull x src c = s.refuseReported x.dock .tableFull x.rider x.seq (some c) := by
  simp [State.grantOrFull, h, hn]

end

/-! ## Steps 14 and 15 (R73 to R75) -/

section
variable {s : State} {x : Tap} {c : Fin 4}

theorem decideTap_unchecked_referred (hx : x.unchecked = true) (hon : s.condition = .online) (hroom : s.uplink.length < 64) :
    s.decideTap x c = s.referTap x c := by
  simp [State.decideTap, hx, isIslanded_eq_false_iff.2 hon, State.hasRoom, hroom]

theorem decideTap_epochUnknown (hx : x.unchecked = true) (h : s.condition = .islanded ∨ 64 ≤ s.uplink.length) :
    s.decideTap x c = s.refuseReported x.dock .epochUnknown x.rider x.seq (some c) := by
  rcases h with h | h
  · simp [State.decideTap, hx, isIslanded_iff.2 h]
  · simp [State.decideTap, hx, State.hasRoom, Nat.not_lt.2 h]

variable (hx : x.unchecked = false)
include hx

theorem decideTap_local (hon : s.condition = .online) (h : maskAllows (s.desc x.dock).localMask c = true) :
    s.decideTap x c = s.grantOrFull x .localGrant c := by
  simp [State.decideTap, hx, isIslanded_eq_false_iff.2 hon, h]

theorem decideTap_referred (hon : s.condition = .online) (h : maskAllows (s.desc x.dock).localMask c = false)
    (hroom : s.uplink.length < 64) : s.decideTap x c = s.referTap x c := by
  simp [State.decideTap, hx, isIslanded_eq_false_iff.2 hon, h, State.hasRoom, hroom]

/-- The islanded mask decides on an islanded station and, without room, where the local mask does not grant. -/
theorem decideTap_byIslandedMask (h : s.condition = .islanded ∨
    (maskAllows (s.desc x.dock).localMask c = false ∧ 64 ≤ s.uplink.length)) : s.decideTap x c = s.byIslandedMask x c := by
  rcases h with h | ⟨hmask, hfull⟩
  · simp [State.decideTap, hx, isIslanded_iff.2 h]
  · simp [State.decideTap, hx, hmask, State.hasRoom, Nat.not_lt.2 hfull]

end

/-- Settles O54: steps 14 and 15 choose the outcome, and what a grant writes is read at the state that the insert of a
provisional entry leaves, which differs from the tap's in its riders alone. -/
theorem tapGrantedReferredOrRefused : Obligations.TapGrantedReferredOrRefused := by
  rintro s x c told rfl new rfl refer rfl grantIn hgrantIn made rfl grants hgrants
  have hwritten : ∀ (v : Vector Bucket 1024) (src : Source),
      (({ s with riders := v } : State).grantTap x src c).countGrant src = grantIn { s with riders := v } src := by
    intro v src
    rw [hgrantIn]
    exact grantTap_countGrant { s with riders := v } x src c
  have hgrant : ∀ src, s.decideTap x c = s.grantOrFull x src c → grants src := by
    intro src hdecided
    rw [hgrants, hdecided]
    refine ⟨fun hc => ?_, fun hc => ⟨fun p hp => ?_, grantOrFull_tableFull hc⟩⟩
    · rw [grantOrFull_known hc]
      exact hwritten s.riders src
    · rw [grantOrFull_inserted hc hp]
      obtain ⟨-, w, -, rfl⟩ := insertRider_eq_some hp
      exact hwritten _ src
  refine ⟨fun hx => ⟨decideTap_unchecked_referred hx, decideTap_epochUnknown hx⟩, fun hx => ⟨fun hon hmask => ?_,
    decideTap_referred hx, fun hisl => ⟨fun hmask => ?_, fun hmask => ?_⟩⟩⟩
  · exact hgrant _ (decideTap_local hx hon hmask)
  · exact hgrant _ (by simp [decideTap_byIslandedMask hx hisl, State.byIslandedMask, maskAllows, hmask])
  · rw [decideTap_byIslandedMask hx hisl, State.byIslandedMask, maskAllows, hmask]
    rfl

end Sys2Proof.Machine
end

section
/-! Uplink bodies: every field read back at its offset (R102, R160, R179, 10.7). -/

namespace Sys2Proof.Machine

/-! ## Fields at an offset -/

theorem byteAt_add (b : List Byte) (i j : Nat) : byteAt b (i + j) = byteAt (b.drop i) j := by
  simp [byteAt, List.getD_eq_getElem?_getD, List.getElem?_drop]

/-- A 16-bit field is read back where the rest of the bytes begins with it. -/
theorem halfAt_of_drop {b rest : List Byte} {i : Nat} {h : Half} (hd : b.drop i = halfBytes h ++ rest) : halfAt b i = h := by
  have h0 : byteAt b i = byteAt (b.drop i) 0 := byteAt_add b i 0
  rw [halfAt, h0, byteAt_add, hd]
  exact joinHalf_halfBytes h

/-- A word is read back where the rest of the bytes begins with it. -/
theorem wordAt_of_drop {b rest : List Byte} {i : Nat} {w : Word} (hd : b.drop i = wordBytes w ++ rest) : wordAt b i = w := by
  have h0 : byteAt b i = byteAt (b.drop i) 0 := byteAt_add b i 0
  rw [wordAt, h0, byteAt_add, byteAt_add, byteAt_add, hd]
  exact joinWord_wordBytes w

/-! ## Flags -/

theorem boolByte_eq (b : Bool) : boolByte b = natByte b.toNat := by cases b <;> rfl

theorem flagBit_zero (b : Bool) : flagBit b 0 = natByte b.toNat := by cases b <;> rfl

theorem flagBit_two (b : Bool) : flagBit b 2 = natByte (4 * b.toNat) := by cases b <;> rfl

theorem presentFlags_eq (latch bike id : Bool) :
    flagBit latch 0 ||| flagBit bike 1 ||| flagBit id 2 = natByte (latch.toNat + 2 * bike.toNat + 4 * id.toNat) := by
  revert latch bike id
  decide

/-- The six flags of a release, each at its bit. -/
theorem releaseFlags_eq (rider : Option Key) (source : Option Source) (cond : Option (Fin 4)) (charged counted : Bool)
    (bikeId : Option Word) : releaseFlags rider source cond charged counted bikeId =
      natByte (rider.isSome.toNat + 2 * source.isSome.toNat + 4 * cond.isSome.toNat + 8 * charged.toNat +
        16 * counted.toNat + 32 * bikeId.isSome.toNat) := by
  unfold releaseFlags
  generalize rider.isSome = b0, source.isSome = b1, cond.isSome = b2, bikeId.isSome = b5
  revert b0 b1 b2 charged counted b5
  decide

/-- A condition code of a TAP_REFUSED beside its flag. -/
theorem condFlag_eq (c : Option (Fin 4)) : flagBit c.isSome 0 ||| (optFour c <<< 1) =
    match c with | none => 0 | some c => natByte (1 + 2 * c.val) := by
  cases c with
  | none => rfl
  | some c =>
    revert c
    decide

/-! ## The bodies -/

theorem stationCode_sent (code : BitVec 12) : (BitVec.ofNat 16 code.toNat).toNat = code.toNat := by
  have := code.isLt
  rw [BitVec.toNat_ofNat]
  omega

/-- The four fields of a DOCK_EVENT after its dock number. -/
theorem eventFields {b : List Byte} {kind flags code : Byte} {id : Word} (hkind : byteAt b 1 = kind) (hflags : byteAt b 2 = flags)
    (hid : wordAt b 3 = id) (hcode : byteAt b 7 = code) :
    (byteAt b 1, byteAt b 2, wordAt b 3, byteAt b 7) = (kind, flags, id, code) := by
  rw [hkind, hflags, hid, hcode]

/-- Settles O55: the codes are finite tables; each body is a list of fields, of which every field is read back. -/
theorem uplinkBodies : Obligations.UplinkBodies := by
  refine ⟨by decide, by decide, by decide, by decide, by decide, by decide, by decide, by decide, by decide, by decide,
    by decide, by decide, by decide, by decide, ?_⟩
  rintro f b rfl
  cases f with
  | referral n d k cls c seq unchecked =>
    exact ⟨rfl, rfl, halfAt_of_drop rfl, rfl, wordAt_of_drop rfl, rfl, rfl, halfAt_of_drop rfl, flagBit_zero unchecked⟩
  | tapRefused d why k seq c => exact ⟨rfl, rfl, rfl, rfl, wordAt_of_drop rfl, halfAt_of_drop rfl, condFlag_eq c⟩
  | releaseReport r =>
    refine ⟨rfl, ?_, halfAt_of_drop rfl, rfl, rfl, releaseFlags_eq _ _ _ _ _ _, wordAt_of_drop rfl, rfl, rfl, rfl,
      halfAt_of_drop rfl, wordAt_of_drop rfl, ?_⟩
    all_goals
      simp only [uplinkBody, releaseReportBody]
      cases r.detail <;> rfl
  | dockEvent d e =>
    cases e with
    | present latch bike id =>
      exact ⟨rfl, rfl, rfl, eventFields rfl (presentFlags_eq latch bike id.isSome) (wordAt_of_drop rfl) rfl⟩
    | absent => exact ⟨rfl, rfl, rfl, eventFields rfl rfl (wordAt_of_drop rfl) rfl⟩
    | docked id => exact ⟨rfl, rfl, rfl, eventFields rfl (flagBit_two id.isSome) (wordAt_of_drop rfl) rfl⟩
    | forcedLift id => exact ⟨rfl, rfl, rfl, eventFields rfl (flagBit_two id.isSome) (wordAt_of_drop rfl) rfl⟩
    | headFault code => exact ⟨rfl, rfl, rfl, eventFields rfl rfl (wordAt_of_drop rfl) rfl⟩
  | lateNotice n d k grant reason allowance =>
    exact ⟨rfl, rfl, halfAt_of_drop rfl, rfl, wordAt_of_drop rfl, boolByte_eq grant, rfl, flagBit_zero allowance⟩
  | orderReply d a outcome st release => exact ⟨rfl, rfl, rfl, rfl, rfl, rfl, halfAt_of_drop rfl⟩
  | loadReply held outcome completed =>
    cases held with
    | none => exact ⟨rfl, rfl, rfl, rfl, halfAt_of_drop rfl⟩
    | some w => exact ⟨rfl, rfl, rfl, rfl, halfAt_of_drop rfl⟩
  | batchReply kind n applied stop key => exact ⟨rfl, rfl, rfl, halfAt_of_drop rfl, rfl, rfl, wordAt_of_drop rfl⟩
  | headReply d outcome payload => exact ⟨rfl, List.length_append, rfl, rfl, rfl, rfl⟩
  | queryReply target bad first count next items =>
    exact ⟨rfl, List.length_append, rfl, boolByte_eq bad, halfAt_of_drop rfl, rfl, flagBit_zero _, halfAt_of_drop rfl, rfl⟩
  | stationState r =>
    refine ⟨rfl, rfl, rfl, ?_, rfl, boolByte_eq _, halfAt_of_drop rfl, rfl, rfl, halfAt_of_drop rfl, halfAt_of_drop rfl, rfl,
      rfl, rfl, rfl, rfl, halfAt_of_drop rfl, halfAt_of_drop rfl⟩
    rw [halfAt_of_drop (h := BitVec.ofNat 16 r.stationCode.toNat) rfl, stationCode_sent]

end Sys2Proof.Machine
end

section
/-! The runtime reset at every block but the riders and the docks (R104, R116, R117, R148, R149, R163, R174, R180). -/

namespace Sys2Proof.Machine

variable {s : State}

/-! ## The removal of every record -/

/-- The removal of a record at a runtime reset reaches the contexts, the riders and the records alone. -/
theorem abortRecord_keeps {α : Type} (g : State → α) (hc : ∀ s v, g { s with ctxs := v } = g s)
    (hk : ∀ s v, g { s with riders := v } = g s) (hr : ∀ s v, g { s with records := v } = g s) (s : State) (r : Record) :
    g (s.abortRecord r) = g s := by
  have hrefund : g (if r.state != .referred then s.refundFor r else s) = g s := by
    split
    · exact refundFor_keeps g hk s r
    · rfl
  exact (dropTest_keeps g hk _ _).trans ((hc _ _).trans ((hr _ _).trans hrefund))

theorem abort_foldl_keeps {α : Type} (g : State → α) (hc : ∀ s v, g { s with ctxs := v } = g s)
    (hk : ∀ s v, g { s with riders := v } = g s) (hr : ∀ s v, g { s with records := v } = g s) :
    ∀ (rs : List Record) (s : State), g (rs.foldl State.abortRecord s) = g s
  | [], _ => rfl
  | r :: rest, s => (abort_foldl_keeps g hc hk hr rest _).trans (abortRecord_keeps g hc hk hr s r)

theorem abortAll_eq (s : State) : ∃ ctxs riders, s.abortAll = { s with ctxs := ctxs, riders := riders, records := [] } := by
  refine ⟨s.abortAll.ctxs, s.abortAll.riders, ?_⟩
  rw [← abortAll_records s]
  exact abort_foldl_keeps
    (fun t => { t with ctxs := s.abortAll.ctxs, riders := s.abortAll.riders, records := s.abortAll.records })
    (fun _ _ => rfl) (fun _ _ => rfl) (fun _ _ => rfl) s.records s

/-! ## The blocks -/

/-- Each String Master is reset by its own members, which the reset of the other leaves. -/
theorem resetStrings_eq (s : State) : (s.resetString .a).resetString .b = { s with
    stringA := s.stringA.runtimeReset (s.members .a).isEmpty
    stringB := s.stringB.runtimeReset (s.members .b).isEmpty } := by
  have hmembers : (s.resetString .a).members .b = s.members .b := members_congr rfl rfl .b
  rw [State.resetString, hmembers]
  rfl

/-- All that the reset of the blocks writes. -/
theorem runtimeBlocks_eq (s : State) : ∃ ctxs riders, s.runtimeBlocks = { s with
    loader := .initial, batch := none, stringA := s.stringA.runtimeReset (s.members .a).isEmpty
    stringB := s.stringB.runtimeReset (s.members .b).isEmpty, ctxs := ctxs, riders := riders, records := [] } := by
  obtain ⟨ctxs, riders, h⟩ := abortAll_eq s
  have hmembers : ∀ m, (s.abortAll.resetDocks (s.records.map Record.dock)).members m = s.members m := by
    rw [h]
    exact members_congr rfl rfl
  rw [State.runtimeBlocks, resetStrings_eq, hmembers, hmembers, h]
  exact ⟨_, riders, rfl⟩

/-- A String Master after the reset of the blocks (R148). -/
theorem str_runtimeBlocks (s : State) (m : StringId) :
    s.runtimeBlocks.str m = (s.str m).runtimeReset (s.members m).isEmpty := by
  obtain ⟨ctxs, riders, h⟩ := runtimeBlocks_eq s
  rw [h]
  cases m <;> rfl

theorem runtimeReset_line (x : StringMaster) (members : List DockNo) : (x.runtimeReset members.isEmpty).line =
    if x.line = .recovering then .recovering else if members = [] then .idle else .clearing := by
  cases members <;> rfl

/-! ## The queue -/

theorem offer_room (h : s.uplink.length < 64) (f : Uplink) : s.offer f = { s with uplink := s.uplink ++ [f] } := if_pos h

/-- The STATION_STATE of a return to online (R114). -/
def onlineReport (s : State) : StationReport :=
  { s.stationReport .online 0 0 (s.islandedTime / 10) s.islandedGrants with condition := .online }

theorem goOnline_room (h : s.uplink.length < 64) : s.goOnline = { s with
    condition := .online, presence := some (s.params.presenceTimeout * 10)
    uplink := s.uplink ++ [.stationState (onlineReport s)] } := by
  unfold State.goOnline
  exact offer_room (s := { s with condition := .online }.startPresence) h _

/-- An acceptance while the queue has room drops no frame: it offers a STATION_STATE when it ends an islanded period. -/
theorem heard_room (h : s.uplink.length < 64) : ∃ ctxs, s.heard = { s with
    presence := some (s.params.presenceTimeout * 10), condition := .online
    islandedTime := if s.condition = .islanded then 0 else s.islandedTime
    islandedGrants := if s.condition = .islanded then 0 else s.islandedGrants
    uplink := if s.condition = .islanded then s.uplink ++ [.stationState (onlineReport s)] else s.uplink
    ctxs := ctxs } := by
  unfold State.heard
  cases hc : s.condition with
  | online =>
    refine ⟨s.ctxs, ?_⟩
    rw [State.startPresence, hc]
    rfl
  | islanded =>
    dsimp only
    rw [State.returnOnline, goOnline_room h]
    exact ⟨_, rfl⟩

/-- The STATION_STATE of a runtime reset of a station (R179, R180). -/
def runtimeReport (s : State) : StationReport :=
  { cause := .runtimeReset, stationCode := s.stationCode, condition := s.condition, epochValid := s.epochValid,
    epoch := if s.epochValid then s.epoch else 0, behindMarks := s.behindMarks, closeMismatch := s.closeMismatch,
    badFrames := s.badFrames, foreignFrames := s.foreignFrames, drops := s.drops, loadState := .idle, recordCount := 0,
    aborted := s.records.length, discarded := s.uplink.length, islandedSeconds := 0, islandedGrants := 0 }

/-- The reset is the acceptance of a frame by the blocks reset, with their STATION_STATE alone in the queue. -/
theorem takeRuntimeReset_eq (s : State) : ∃ b ctxs riders, takeRuntimeReset s = b.heard ∧ b = { s with
    uplink := [.stationState (runtimeReport s)], loader := .initial, batch := none
    stringA := s.stringA.runtimeReset (s.members .a).isEmpty
    stringB := s.stringB.runtimeReset (s.members .b).isEmpty, ctxs := ctxs, riders := riders, records := [] } := by
  obtain ⟨ctxs, riders, h⟩ := runtimeBlocks_eq { s with uplink := [] }
  refine ⟨_, ctxs, riders, rfl, ?_⟩
  rw [h]
  rfl

theorem exec_stationResetRuntime {code : Half} (h : Listening s code) :
    exec (.stationResetRuntime code [1]) s = .next (takeRuntimeReset s) := by
  have hlen : [(1 : Byte)].length ≤ 1024 := by decide
  rw [exec_of_frameOf (i := .stationResetRuntime code [1]) rfl, receive_accepted h .stationReset hlen, acceptFrame_runtimeReset]

/-- Settles O4: the blocks reset, then the acceptance, whose STATION_STATE follows that of the reset. -/
theorem runtimeResetOfTheStation : Obligations.RuntimeResetOfTheStation := by
  intro code s h
  refine ⟨takeRuntimeReset s, exec_stationResetRuntime h, ?_⟩
  obtain ⟨b, _, _, hreset, hb⟩ := takeRuntimeReset_eq s
  have hroom : b.uplink.length < 64 := by
    rw [hb]
    exact Nat.one_lt_ofNat
  obtain ⟨ctxs, hheard⟩ := heard_room hroom
  subst hb
  rw [hheard] at hreset
  refine ⟨?_, ⟨runtimeReport s, rfl, fun hon => ?_, fun hisl => ?_⟩, fun m => ?_⟩
  · rw [hreset]
  · rw [hreset]
    exact if_neg (by rw [hon]; decide)
  · rw [hreset]
    exact if_pos hisl
  · rw [takeRuntimeReset, heard_str, offer_str, str_runtimeBlocks]
    exact ⟨rfl, rfl, rfl, rfl, rfl, runtimeReset_line _ _⟩

end Sys2Proof.Machine
end

section
/-! The tick, the two record timers, settlements and verdicts (R85 to R91, R96, R118). -/

namespace Sys2Proof.Machine

variable {s : State} {r : Record} {k : Key}

/-- A command that the part takes while RESETN is high (R178). -/
theorem whenRunning_next (h : s.resetnLow = false) (f : State → State) : whenRunning s f = .next (f s) := by
  rw [whenRunning, h]
  rfl

/-! ## The tick (R85, R106, R113, R118, R123) -/

theorem exec_tick (h : s.resetnLow = false) : exec .tick s = .next (takeTick s) := whenRunning_next h takeTick

theorem recordTick_eq (r : Record) : r.tick = { r with timer := match r.timer with
    | .none => .none
    | .referral n => .referral (n - 1)
    | .lift n => .lift (n - 1) } := by
  unfold Record.tick
  cases r.timer <;> rfl

theorem tickIslanded_eq (s : State) :
    s.tickIslanded = if s.condition = .islanded then min 655350 (s.islandedTime + 1) else s.islandedTime := by
  simp only [State.tickIslanded, isIslanded_iff]

/-- Settles O24: each record's timer, and the islanded time by the condition. -/
theorem tickLowersTheTimers : Obligations.TickLowersTheTimers := by
  intro s h
  have hrecords : s.records.map Record.tick = s.records.map _ := List.map_congr_left fun r _ => recordTick_eq r
  rw [exec_tick h, takeTick, hrecords, tickIslanded_eq]
  rfl

/-! ## The expiry of a lift timer (R96) -/

theorem exec_liftTimerExpiry (h : s.resetnLow = false) (n : Half) :
    exec (.liftTimerExpiry n) s = .next (takeLiftExpiry n s) := whenRunning_next h (takeLiftExpiry n)

/-- A lift timer that has run out is that of the record which names the dock: that record is removed. -/
theorem takeLiftExpiry_opened (hs : RecordsMatchDocks s) (hr : r ∈ s.records) (hst : r.state = .opened)
    (ht : r.timer = .lift 0) : takeLiftExpiry r.number s =
      s.removeAt r.dock true (some (.timedOut, .nothing)) fun t => t.modCtx r.dock fun c => c.timeOut r := by
  rw [removeAt_eq hs hr, takeLiftExpiry, expired_eq hs hr ht]
  exact if_pos hst

/-- Settles O33: a removal with the rider's counts given back. -/
theorem liftTimerExpiry : Obligations.LiftTimerExpiry := by
  intro s r h hs hr hst ht
  have hat := recordAt_eq hs.docks hr
  rw [exec_liftTimerExpiry h, takeLiftExpiry_opened hs.docks hr hst ht, removeAt_refunded hat (by decide)]
  rfl

/-! ## Grants and settlements of a referred record (R87, R90, R91) -/

/-- What a grant of a referred record writes: the record, the rider's entry, the dock. -/
theorem grantReferred_eq (hk : r.rider = some k) (s : State) (src : Source) : s.grantReferred r src =
    ((s.modRecord r.number fun x => { x with state := .opening, source := some src, charged := false,
                                             counted := (s.lookup k).isSome, timer := .none }).modRider k fun e =>
      { e with bikesOut := min 15 (e.bikesOut + 1), lastUse := nowOf s }).modCtx r.dock (granted r.number) := by
  simp only [State.grantReferred, hk, Option.getD_some]
  rfl

theorem settleRefused_eq (s : State) (r : Record) (why : Reason) : s.settleRefused r why =
    (((s.offer (reportFor r .settledRefused (.refusedWith why))).eraseRecord r.number).modCtx r.dock fun c =>
      { c with state := .holding, record := none, indicator := .red why 0, unsent := true }).dropTest r.rider := by
  rw [← reportOf_eq r (by decide)]
  rfl

section
variable {c : Fin 4} (hk : r.rider = some k) (hc : r.cond = some c)
include hk hc

theorem settle_refused (hmask : maskAllows (s.desc r.dock).islandedMask c = false) : s.settle r = s.settleRefused r .noAnswer := by
  simp [State.settle, hk, hc, hmask]

theorem settle_granted (hmask : maskAllows (s.desc r.dock).islandedMask c = true) : s.settle r = s.settleGranted r k c := by
  simp [State.settle, hk, hc, hmask]

end

theorem settleGranted_direct {c : Fin 4} (h : s.lookup k ≠ none ∨ c ≠ 2) :
    s.settleGranted r k c = s.grantReferred r .fallback := by
  refine if_neg fun hnew => ?_
  exact h.elim (fun he => he (by simpa using hnew.1)) fun hc => hc hnew.2

/-- Condition 2 and no entry: a provisional creation, and by what it answers a grant or a refusal. -/
theorem settleGranted_provisional {cls : Fin 4} {q : Half} (hcls : r.cls = some cls) (hq : r.seq = some q)
    (hno : s.lookup k = none) : s.settleGranted r k 2 =
      match s.createProvisional k cls q with
      | some t => t.grantReferred r .fallback
      | none => s.settleRefused r .tableFull := by
  simp only [State.settleGranted, hno, hcls, hq, Option.getD_some]
  rfl

theorem createProvisional_lookup {t : State} {cls : Fin 4} {q : Half} (h : s.createProvisional k cls q = some t)
    (hno : s.lookup k = none) : t.lookup k = some (provisionalEntry k cls q s.curEpoch) :=
  (lookup_insertRider (e := provisionalEntry k cls q s.curEpoch) h hno).1

theorem createProvisional_now {t : State} {cls : Fin 4} {q : Half} (h : s.createProvisional k cls q = some t) :
    nowOf t = nowOf s := insertRider_keeps nowOf (fun _ _ => rfl) h

theorem exec_referralTimerExpiry (h : s.resetnLow = false) (n : Half) :
    exec (.referralTimerExpiry n) s = .next (takeReferralExpiry n s) := whenRunning_next h (takeReferralExpiry n)

theorem takeReferralExpiry_referred (hs : RecordsMatchDocks s) (hr : r ∈ s.records) (hst : r.state = .referred)
    (ht : r.timer = .referral 0) : takeReferralExpiry r.number s = s.settle r := by
  rw [takeReferralExpiry, expired_eq hs hr ht]
  exact if_pos hst

/-- Settles O32: by the mask, then by the rider's entry and the condition, then by the insert. -/
theorem settlementByTheIslandedMask : Obligations.SettlementByTheIslandedMask := by
  rintro s r k c cls q hk hc hcls hq refused rfl grant rfl made hmade
  have hrefused : ∀ why, s.settleRefused r why = _ := settleRefused_eq s r
  refine ⟨fun hmask => ?_, fun hmask => ?_, fun h hs hr hst ht => ?_⟩
  · rw [settle_refused hk hc hmask, hrefused, hk]
  · rw [settle_granted hk hc hmask]
    refine ⟨fun he => ?_, fun hno hne => ?_, ?_⟩
    · rw [settleGranted_direct (.inl he), grantReferred_eq hk, Option.isSome_iff_ne_none.2 he]
    · rw [settleGranted_direct (.inr hne), grantReferred_eq hk, hno]
      rfl
    · rintro hno rfl
      rw [settleGranted_provisional hcls hq hno]
      change made = s.createProvisional k cls q at hmade
      refine ⟨fun t ht => ?_, fun hnone => ?_⟩
      · have hp : s.createProvisional k cls q = some t := hmade.symm.trans ht
        rw [hp]
        dsimp only
        rw [grantReferred_eq hk, createProvisional_lookup hp hno, createProvisional_now hp]
        rfl
      · have hp : s.createProvisional k cls q = none := hmade.symm.trans hnone
        rw [hp]
        dsimp only
        rw [hrefused, hk]
  · rw [exec_referralTimerExpiry h, takeReferralExpiry_referred hs.docks hr hst ht]

/-! ## Verdicts (R86 to R89) -/

section
variable (n : Half) (d : Byte) (k : Key) (grant : Bool) (reason flags allowance : Byte)

/-- The fields of a VERDICT body as the part reads them. -/
theorem verdictOf_verdictBody : verdictOf (verdictBody n d k grant reason flags allowance) =
    { number := n, dock := d, rider := k, grant := grant, reason := reason,
      allowance := if flags.getLsbD 0 then some allowance else none } := by
  have hn : halfAt (verdictBody n d k grant reason flags allowance) 0 = n := halfAt_of_drop rfl
  have hk : wordAt (verdictBody n d k grant reason flags allowance) 3 = k := wordAt_of_drop rfl
  rw [verdictOf, hn, hk]
  cases grant <;> rfl

/-- A VERDICT is taken after its acceptance. -/
theorem exec_verdict {code : Half} (h : Listening s code) :
    exec (.verdict code (verdictBody n d k grant reason flags allowance)) s =
      .next (takeVerdict (verdictBody n d k grant reason flags allowance) s.heard) := by
  have hlen : (verdictBody n d k grant reason flags allowance).length = 11 := rfl
  have hfits : fits .verdict (verdictBody n d k grant reason flags allowance) = true := by cases grant <;> rfl
  rw [exec_of_frameOf (i := .verdict code _) rfl, receive_accepted h .verdict (by omega), State.acceptFrame, hfits]
  rfl

end

theorem Verdict.hits_iff (v : Verdict) (r : Record) : v.hits r = true ↔
    r.number = v.number ∧ r.dock.val = v.dock.toNat ∧ r.rider = some v.rider ∧ r.state = .referred := by
  simp [Verdict.hits, and_assoc]

/-- Release numbers are distinct, so the record that a verdict hits is the one it finds. -/
theorem find?_hits (hs : RecordsMatchDocks s) (hr : r ∈ s.records) {v : Verdict} (h : v.hits r = true) :
    s.records.find? v.hits = some r := by
  refine find?_eq_of_unique hr h fun x hx hxv => ?_
  obtain ⟨hn, -⟩ := (v.hits_iff r).1 h
  obtain ⟨hxn, -⟩ := (v.hits_iff x).1 hxv
  exact hs.eq_of_number hr hx (hxn.trans hn.symm)

section
variable {body : List Byte} {v : Verdict} (hv : verdictOf body = v)
include hv

theorem takeVerdict_late (h : ∀ r ∈ s.records, ¬v.hits r = true) : takeVerdict body s = s.offer v.lateNotice := by
  rw [takeVerdict, hv, List.find?_eq_none.2 h]

theorem takeVerdict_grant (h : s.records.find? v.hits = some r) (hg : v.grant = true) :
    takeVerdict body s = (v.applyAllowance s).grantReferred r .central := by
  rw [takeVerdict, hv, h]
  exact if_pos hg

/-- A denial removes the record with no report and no change of the rider's counts. -/
theorem takeVerdict_denial (h : s.records.find? v.hits = some r) (hg : v.grant = false) : takeVerdict body s =
    (((v.applyAllowance s).eraseRecord r.number).modCtx r.dock fun c =>
      { c with state := .holding, record := none, indicator := .red .backendDeny v.reason, unsent := true }).dropTest
        r.rider := by
  rw [takeVerdict, hv, h]
  exact if_neg (Bool.eq_false_iff.1 hg)

end

/-- The allowance value changes one field of an entry, and makes none. -/
theorem applyAllowance_lookup_isSome (v : Verdict) (s : State) (k : Key) :
    ((v.applyAllowance s).lookup k).isSome = (s.lookup k).isSome := by
  unfold Verdict.applyAllowance
  cases v.allowance with
  | none => rfl
  | some a =>
    dsimp only
    rw [lookup_modRider s v.rider (fun e => e.setAllowance a.toNat) fun _ => rfl]
    split
    · next hk => rw [hk, Option.isSome_map]
    · rfl

theorem applyAllowance_now (v : Verdict) (s : State) : nowOf (v.applyAllowance s) = nowOf s := by
  unfold Verdict.applyAllowance
  cases v.allowance with
  | none => rfl
  | some a => exact modRider_keeps nowOf (fun _ _ => rfl) s v.rider _

theorem heard_now (s : State) : nowOf s.heard = nowOf s := heard_keeps nowOf (fun _ _ _ _ _ _ _ _ => rfl) s

/-- Settles O11: the record that matches, with the two decisions, and no record that matches. -/
theorem verdictsGrantDenyOrComeLate : Obligations.VerdictsGrantDenyOrComeLate := by
  refine ⟨fun code reason flags allowance r k s hl hs hr hk hst => ⟨_, rfl, ?_⟩,
    fun code n d k grant reason flags allowance s hl hnone => ?_⟩
  · have hv := fun grant => verdictOf_verdictBody r.number (natByte r.dock.val) k grant reason flags allowance
    have hfind : ∀ v : Verdict, v.number = r.number → v.dock = natByte r.dock.val → v.rider = k →
        s.heard.records.find? v.hits = some r := by
      rintro v hn hd rfl
      have hdock : r.dock.val = v.dock.toNat := by rw [hd, natByte_toNat]
      rw [heard_records]
      exact find?_hits hs.docks hr ((v.hits_iff r).2 ⟨hn.symm, hdock, hk, hst⟩)
    constructor
    · rw [exec_verdict _ _ _ _ _ _ _ hl, takeVerdict_grant (hv true) (hfind _ rfl rfl rfl) rfl, grantReferred_eq hk,
        applyAllowance_lookup_isSome, applyAllowance_now, heard_lookup, heard_now]
      cases flags.getLsbD 0 <;> rfl
    · rw [exec_verdict _ _ _ _ _ _ _ hl, takeVerdict_denial (hv false) (hfind _ rfl rfl rfl) rfl, hk]
      cases flags.getLsbD 0 <;> rfl
  · have hv := verdictOf_verdictBody n d k grant reason flags allowance
    rw [exec_verdict _ _ _ _ _ _ _ hl, takeVerdict_late hv]
    · cases flags.getLsbD 0 <;> rfl
    · intro r hr hhit
      rw [heard_records] at hr
      exact hnone r hr ((Verdict.hits_iff _ r).1 hhit)

end Sys2Proof.Machine
end

section
/-! The Islanding Monitor: the acceptance of a frame, the expiry of the presence timer (R106 to R109, R114). -/

namespace Sys2Proof.Machine

variable {s : State}

/-! ## The acceptance of a frame (R106, R107, R114) -/

theorem heard_online (h : s.condition = .online) : s.heard = s.startPresence := by rw [State.heard, h]

theorem heard_islanded (h : s.condition = .islanded) : s.heard = s.returnOnline := by rw [State.heard, h]

/-- A return to online whose STATION_STATE finds the queue full (R114, R175). -/
theorem goOnline_full (h : 64 ≤ s.uplink.length) : s.goOnline = { s with
    condition := .online, presence := some (s.params.presenceTimeout * 10), drops := min 255 (s.drops + 1) } := by
  unfold State.goOnline
  exact if_neg (Nat.not_lt.2 h)

/-- Settles O7: the restart while ONLINE; the return to online with room in the queue and without, and dock by dock. -/
theorem acceptanceOfAFrame : Obligations.AcceptanceOfAFrame := by
  refine fun s => ⟨heard_online, fun hisl => ⟨?_, ⟨onlineReport s, rfl, fun hroom => ?_, fun hfull => ?_⟩, fun d => ?_⟩⟩
  · obtain ⟨u, n, c, h⟩ := heard_eq s
    rw [h, if_pos hisl, if_pos hisl]
  · rw [heard_islanded hisl, State.returnOnline, goOnline_room hroom]
    exact ⟨rfl, rfl⟩
  · rw [heard_islanded hisl, State.returnOnline, goOnline_full hfull]
    exact ⟨rfl, rfl⟩
  · simp only [heard_ctx, hisl, true_and]

/-! ## What a settlement writes (R90, R109) -/

/-- A settlement refuses, or grants after it has written the Rider Table at most (R90). -/
theorem settle_cases (s : State) (r : Record) : (∃ why, s.settle r = s.settleRefused r why) ∨
    ∃ v, s.settle r = { s with riders := v }.grantReferred r .fallback := by
  unfold State.settle State.settleGranted
  split
  · split
    · split
      · split
        · next t ht =>
          obtain ⟨-, w, -, rfl⟩ := insertRider_eq_some ht
          exact .inr ⟨_, rfl⟩
        · exact .inl ⟨_, rfl⟩
      · exact .inr ⟨s.riders, rfl⟩
    · exact .inl ⟨_, rfl⟩
  · exact .inl ⟨_, rfl⟩

section
variable {α : Type} (g : State → α) (hg : ∀ s u n c v x, g { s with
  uplink := u, drops := n, ctxs := c, riders := v, records := x } = g s)
include hg

theorem settleRefused_keeps (s : State) (r : Record) (why : Reason) : g (s.settleRefused r why) = g s := by
  rw [settleRefused_eq]
  refine (dropTest_keeps g (fun s v => hg s s.uplink s.drops s.ctxs v s.records) _ _).trans ?_
  refine ((hg _ _ _ _ _ _).trans (hg _ _ _ _ _ _)).trans ?_
  exact offer_keeps g (fun s u => hg s u s.drops s.ctxs s.riders s.records)
    (fun s n => hg s s.uplink n s.ctxs s.riders s.records) _ _

theorem grantReferred_keeps (s : State) (r : Record) (src : Source) : g (s.grantReferred r src) = g s := by
  refine (hg _ _ _ _ _ _).trans ((modRider_keeps g (fun s v => hg s s.uplink s.drops s.ctxs v s.records) _ _ _).trans ?_)
  exact hg s s.uplink s.drops s.ctxs s.riders _

theorem settle_keeps (s : State) (r : Record) : g (s.settle r) = g s := by
  rcases settle_cases s r with ⟨why, h⟩ | ⟨v, h⟩ <;> rw [h]
  · exact settleRefused_keeps g hg s r why
  · exact (grantReferred_keeps g hg _ r _).trans (hg s s.uplink s.drops s.ctxs v s.records)

theorem settle_foldl_keeps : ∀ (rs : List Record) (s : State), g (rs.foldl State.settle s) = g s
  | [], _ => rfl
  | r :: rest, s => (settle_foldl_keeps rest _).trans (settle_keeps g hg s r)

/-- The settlement of every REFERRED record reaches the queue, its drop count, the contexts, the riders and the records alone. -/
theorem settleAll_keeps (s : State) : g s.settleAll = g s := settle_foldl_keeps g hg _ s

end

/-! ## The expiry of the presence timer (R108, R109) -/

theorem exec_presenceTimerExpiry (h : s.resetnLow = false) :
    exec .presenceTimerExpiry s = .next (takePresenceExpiry s) := whenRunning_next h takePresenceExpiry

theorem takePresenceExpiry_due (hp : s.presence = some 0) (hc : s.condition = .online) :
    takePresenceExpiry s = s.goIslanded.settleAll.markClosed := if_pos ⟨hp, hc⟩

/-- Settles O34: the settlements write neither what the first step of islanding has set nor what a dock's mark reads. -/
theorem presenceTimerExpiry : Obligations.PresenceTimerExpiry := by
  intro s h hp hc t ht
  change t = s.goIslanded.settleAll at ht
  subst ht
  refine ⟨s.goIslanded.settleAll.markClosed, ?_, rfl, settleAll_keeps State.condition (fun _ _ _ _ _ _ => rfl) _,
    settleAll_keeps State.presence (fun _ _ _ _ _ _ => rfl) _, settleAll_keeps State.islandedTime (fun _ _ _ _ _ _ => rfl) _,
    settleAll_keeps State.islandedGrants (fun _ _ _ _ _ _ => rfl) _, fun d => ?_, fun _ => settleAll_none_referred _⟩
  · rw [exec_presenceTimerExpiry h, takePresenceExpiry_due hp hc]
  · have hpolled : s.goIslanded.settleAll.polled d = s.polled d :=
      settleAll_keeps (State.polled · d) (fun _ _ _ _ _ _ => rfl) s.goIslanded
    have hdesc : s.goIslanded.settleAll.desc d = s.desc d :=
      settleAll_keeps (State.desc · d) (fun _ _ _ _ _ _ => rfl) s.goIslanded
    rw [markClosed_ctx, hpolled, hdesc]

end Sys2Proof.Machine
end

section
/-! The clock: an EPOCH_MARK by where it lies from the station epoch, the expiry of the local epoch timer (R120 to R123). -/

namespace Sys2Proof.Machine

variable {s : State} {v : Half}

/-! ## A change of epoch (R39, R125) -/

/-- Not at or before an epoch is 32,768 or more ahead of it (R39). -/
theorem not_atOrBefore (expiry e : Half) : (!atOrBefore expiry e) = decide (32768 ≤ (e - expiry).toNat) := by
  simp only [atOrBefore, ← decide_not, Nat.not_lt]

theorem changeEpoch_eq (s : State) (e : Half) : s.changeEpoch e = epochChanged s e := by
  simp only [State.changeEpoch, epochChanged, purged, not_atOrBefore]

/-! ## Epoch marks (R120, R121, R122) -/

theorem halfAt_halfBytes (v : Half) : halfAt (halfBytes v) 0 = v := halfAt_of_drop (rest := []) (List.append_nil _).symm

theorem takeEpochMark_first (h : s.epochValid = false) : takeEpochMark (halfBytes v) s = epochChanged s v := by
  simp only [takeEpochMark, halfAt_halfBytes, h, Bool.false_eq_true, if_false, changeEpoch_eq]

/-- A mark at a valid epoch goes by its distance ahead of the epoch, modulo 65,536. -/
theorem takeEpochMark_valid (h : s.epochValid = true) : takeEpochMark (halfBytes v) s =
    if (v - s.epoch).toNat = 0 then { s with epochTimer := some (s.params.epochLength * 10) }
    else if (v - s.epoch).toNat ≤ 32767 then epochChanged s v
    else { s with behindMarks := min 255 (s.behindMarks + 1) } := by
  simp only [takeEpochMark, halfAt_halfBytes, h, if_true, changeEpoch_eq]

theorem takeEpochMark_equal (h : s.epochValid = true) (hv : v = s.epoch) :
    takeEpochMark (halfBytes v) s = { s with epochTimer := some (s.params.epochLength * 10) } := by
  have hzero : (v - s.epoch).toNat = 0 := by rw [hv, BitVec.sub_self, BitVec.toNat_zero]
  rw [takeEpochMark_valid h, if_pos hzero]

theorem takeEpochMark_ahead (h : s.epochValid = true) (hpos : 1 ≤ (v - s.epoch).toNat) (hle : (v - s.epoch).toNat ≤ 32767) :
    takeEpochMark (halfBytes v) s = epochChanged s v := by
  rw [takeEpochMark_valid h, if_neg (Nat.ne_of_gt hpos), if_pos hle]

theorem takeEpochMark_behind (h : s.epochValid = true) (hd : 32768 ≤ (v - s.epoch).toNat) :
    takeEpochMark (halfBytes v) s = { s with behindMarks := min 255 (s.behindMarks + 1) } := by
  rw [takeEpochMark_valid h, if_neg (by omega), if_neg (by omega)]

/-- An EPOCH_MARK is taken after its acceptance. -/
theorem exec_epochMark {code : Half} (h : Listening s code) (v : Half) :
    exec (.epochMark code (halfBytes v)) s = .next (takeEpochMark (halfBytes v) s.heard) := by
  have hlen : (halfBytes v).length ≤ 1024 := by simp
  rw [exec_of_frameOf (i := .epochMark code _) rfl, receive_accepted h .epochMark hlen]
  rfl

/-! ## The local epoch timer (R123) -/

theorem exec_localEpochTimerExpiry (h : s.resetnLow = false) :
    exec .localEpochTimerExpiry s = .next (takeEpochExpiry s) := whenRunning_next h takeEpochExpiry

theorem takeEpochExpiry_due (hv : s.epochValid = true) (ht : s.epochTimer = some 0) :
    takeEpochExpiry s = epochChanged s (s.epoch + 1) := (if_pos ⟨hv, ht⟩).trans (changeEpoch_eq s _)

/-- Settles O25: the mark judged at the state that its acceptance leaves, which keeps the epoch, its valid mark and the count of
marks behind; then the expiry of a timer that is due. -/
theorem epochMarksAndLocalAdvance : Obligations.EpochMarksAndLocalAdvance := by
  refine ⟨fun code v s hl => ?_, fun s h hv ht => ?_⟩
  · rw [exec_epochMark hl, ← heard_epochValid s, ← heard_epoch s, ← heard_params s, ← heard_behindMarks s]
    exact ⟨fun hinvalid => congrArg _ (takeEpochMark_first hinvalid), fun hvalid =>
      ⟨fun heq => congrArg _ (takeEpochMark_equal hvalid heq),
       fun hpos hle => congrArg _ (takeEpochMark_ahead hvalid hpos hle),
       fun hbehind => congrArg _ (takeEpochMark_behind hvalid hbehind)⟩⟩
  · rw [exec_localEpochTimerExpiry h, takeEpochExpiry_due hv ht]

end Sys2Proof.Machine
end

section
/-! The dock strings: the choice of the next exchange, polls, ends of exchanges, the line watchdog and recovery (R130 to R145). -/

namespace Sys2Proof.Machine

variable {s : State} {m : StringId} {d : DockNo}

/-! ## Members, and the lowest of them (R131 to R133) -/

theorem mem_members : d ∈ s.members m ↔ s.polled d = true ∧ stringOf s.params d = some m := by
  simp [State.members, allDocks, State.member]

theorem members_ascending (s : State) (m : StringId) : (s.members m).Pairwise (· < ·) :=
  (List.pairwise_lt_finRange 48).filter _

/-- A search of an ascending list ends at the lowest element that meets the condition. -/
theorem find?_lowest {l : List DockNo} (hl : l.Pairwise (· < ·)) {p : DockNo → Bool} (hd : d ∈ l) (hp : p d = true)
    (hlow : ∀ e < d, e ∈ l → p e = false) : l.find? p = some d := by
  obtain ⟨lower, upper, rfl⟩ := List.append_of_mem hd
  refine List.find?_eq_some_iff_append.2 ⟨hp, lower, upper, rfl, fun e he => ?_⟩
  obtain ⟨-, -, hlt⟩ := List.pairwise_append.1 hl
  have hnot := hlow e (hlt e he d (by simp)) (by simp [he])
  simp [hnot]

theorem abovePosition_iff (position : Option DockNo) (d : DockNo) :
    abovePosition position d = true ↔ ∀ p, position = some p → p < d := by
  cases position <;> simp [abovePosition]

theorem due_iff (s : State) (d : DockNo) (c : Fin 8) :
    s.due d c = true ↔ ((s.ctx d).state ≠ .absent ∧ (s.ctx d).missCount < 8) ∨ c = 0 := by
  simp [State.due, State.reduced]

/-! ## The choice of the next exchange (R132, R133) -/

theorem nextDue_eq_some {c : Fin 8} {position : Option DockNo} (hm : d ∈ s.members m) (ha : abovePosition position d = true)
    (hd : s.due d c = true)
    (hlow : ∀ e < d, e ∈ s.members m → abovePosition position e = true → ¬s.due e c = true) :
    s.nextDue m c position = some d := by
  refine find?_lowest (members_ascending s m) hm (by simp [ha, hd]) fun e he hem => ?_
  simpa using hlow e he hem

theorem nextDue_eq_none {c : Fin 8} {position : Option DockNo}
    (h : ∀ e ∈ s.members m, abovePosition position e = true → ¬s.due e c = true) : s.nextDue m c position = none :=
  List.find?_eq_none.2 fun e he => by simpa using h e he

theorem cycle_add_succ (cycle : Fin 8) (i : Nat) : cycle + 1 + Fin.ofNat 8 i = cycle + Fin.ofNat 8 (i + 1) := by
  apply Fin.ext
  simp only [Fin.val_add, Fin.val_ofNat, Fin.val_one]
  omega

/-- The new cycles end at the first in which a member is due. -/
theorem newCycles_first {j fuel : Nat} {cycle : Fin 8} (hj : j < fuel)
    (hnone : ∀ i < j, s.nextDue m (cycle + Fin.ofNat 8 (i + 1)) none = none)
    (hsome : s.nextDue m (cycle + Fin.ofNat 8 (j + 1)) none = some d) :
    s.newCycles m fuel cycle = some (cycle + Fin.ofNat 8 (j + 1), d) := by
  induction j generalizing fuel cycle with
  | zero =>
    obtain ⟨fuel, rfl⟩ := Nat.exists_eq_add_one_of_ne_zero (Nat.ne_of_gt hj)
    have hfirst : s.nextDue m (cycle + 1) none = some d := hsome
    rw [State.newCycles, hfirst]
    rfl
  | succ j ih =>
    obtain ⟨fuel, rfl⟩ := Nat.exists_eq_add_one_of_ne_zero (Nat.ne_of_gt (Nat.zero_lt_of_lt hj))
    have hfirst : s.nextDue m (cycle + 1) none = none := hnone 0 (Nat.succ_pos j)
    rw [← cycle_add_succ] at hsome ⊢
    rw [State.newCycles, hfirst]
    refine ih (Nat.lt_of_succ_lt_succ hj) (fun i hi => ?_) hsome
    rw [cycle_add_succ]
    exact hnone (i + 1) (Nat.succ_lt_succ hi)

theorem newCycles_empty (h : s.members m = []) (fuel : Nat) (cycle : Fin 8) : s.newCycles m fuel cycle = none := by
  induction fuel generalizing cycle with
  | zero => rfl
  | succ fuel ih =>
    have hnone : s.nextDue m (cycle + 1) none = none := nextDue_eq_none (by simp [h])
    rw [State.newCycles, hnone]
    exact ih _

theorem chooseNext_current (h : s.nextDue m (s.str m).cycle (s.str m).position = some d) :
    s.chooseNext m = some ((s.str m).cycle, d) := by rw [State.chooseNext, h]

theorem chooseNext_following (h : s.nextDue m (s.str m).cycle (s.str m).position = none) :
    s.chooseNext m = s.newCycles m 8 (s.str m).cycle := by rw [State.chooseNext, h]

/-- A string without members has no next exchange. -/
theorem chooseNext_empty (h : s.members m = []) : s.chooseNext m = none := by
  rw [chooseNext_following (nextDue_eq_none (by simp [h])), newCycles_empty h]

/-- Settles O39: the search of the members in ascending order, then the new cycles, of which the one with count 0 finds every
member due. -/
theorem pollChoice : Obligations.PollChoice := by
  intro s m member hmember due hdue above habove
  obtain rfl : member = (· ∈ s.members m) := funext fun d => propext ((hmember d).trans mem_members.symm)
  obtain rfl : due = (s.due · · = true) := funext₂ fun d c => propext ((hdue d c).trans (due_iff s d c).symm)
  obtain rfl : above = (abovePosition (s.str m).position · = true) :=
    funext fun d => propext ((habove d).trans (abovePosition_iff _ d).symm)
  refine ⟨⟨fun h d => ?_, fun h => chooseNext_empty (List.eq_nil_iff_forall_not_mem.2 h)⟩, fun d hm ha hd hlow => ?_,
    fun j d hcurrent hpos hj hskip hm hd hlow => ?_⟩
  · rw [chooseNext_none h]
    exact List.not_mem_nil
  · exact chooseNext_current (nextDue_eq_some hm ha hd hlow)
  · obtain ⟨j, rfl⟩ := Nat.exists_eq_add_one_of_ne_zero (Nat.ne_of_gt hpos)
    rw [chooseNext_following (nextDue_eq_none hcurrent)]
    refine newCycles_first hj (fun i hi => ?_) (nextDue_eq_some hm rfl hd fun e he hem _ => hlow e he hem)
    exact nextDue_eq_none fun e he _ => hskip (i + 1) (Nat.succ_pos i) (Nat.succ_lt_succ hi) e he

/-! ## Polls (R133, R134, R144) -/

theorem passFor_eq_some {x : StringMaster} {payload : List Byte} (h : x.headPass = some { dock := d, payload := payload }) :
    x.passFor d = some payload := by simp [StringMaster.passFor, h]

theorem passFor_eq_none {x : StringMaster} (h : ∀ p, x.headPass = some p → p.dock ≠ d) : x.passFor d = none := by
  unfold StringMaster.passFor
  split
  · next p hp => exact if_neg (h p hp)
  · rfl

/-- The bytes that an ORDINARY poll carries for an order (10.7). -/
def orderBytes (serial : Byte) : Option Order → List Byte
  | none => []
  | some .unlatch => [1, serial]
  | some .relatch => [2, serial]

/-- An ORDINARY poll by the order slot and the unsent mark of the dock's context. -/
theorem ordinaryPoll_eq (a : Byte) (c : DockContext) (shown : Indicator) :
    ordinaryPoll a c.carried (if c.unsent then some shown else none) =
      withCrc ([a, (if c.order = none then 0 else 2) ||| (if c.unsent then 1 else 0)] ++ orderBytes c.serial c.order ++
        (if c.unsent then [indicatorCode shown, indicatorReason shown, indicatorDetail shown] else [])) := by
  unfold ordinaryPoll DockContext.carried
  rcases c.order with _ | order
  · cases c.unsent <;> rfl
  · cases order <;> cases c.unsent <;> rfl

theorem carried_serial (c : DockContext) :
    c.carried.map Prod.snd = if c.order = none then none else some c.serial := by
  unfold DockContext.carried
  cases c.order <;> rfl

theorem polledOnce_eq (c : DockContext) : c.polledOnce =
    { c with tries := if c.order = none then c.tries else min 3 (c.tries + 1), unsent := false } := by
  unfold DockContext.polledOnce
  cases c.order <;> rfl

theorem shown_eq (s : State) (d : DockNo) : s.shown d =
    if s.condition = .islanded ∧ (s.desc d).mode = .close then .dark else (s.ctx d).indicator := by
  simp [State.shown, State.isIslanded]

theorem exec_pollSend (h : s.resetnLow = false) (m : StringId) : exec (.pollSend m) s = .next (takePollSend m s) :=
  whenRunning_next h (takePollSend m)

theorem takePollSend_none (hl : (s.str m).line = .clearing) (h : s.chooseNext m = none) :
    takePollSend m s = s.setStr m (s.str m).goIdle := by rw [takePollSend, if_pos hl, h]

theorem takePollSend_some {n : Fin 8} (hl : (s.str m).line = .clearing) (h : s.chooseNext m = some (n, d)) :
    takePollSend m s = s.sendPoll m n d := by rw [takePollSend, if_pos hl, h]

theorem sendPoll_pass {payload : List Byte} (h : (s.str m).headPass = some { dock := d, payload := payload }) (n : Fin 8) :
    s.sendPoll m n d = s.setStr m ((s.str m).begin n
      { dock := d, aliasSent := (s.desc d).aliasNo, kind := .pass, serial := none, discarded := false }
      (passPoll (s.desc d).aliasNo payload)) := by simp only [State.sendPoll, passFor_eq_some h]

theorem sendPoll_ordinary (h : ∀ p, (s.str m).headPass = some p → p.dock ≠ d) (n : Fin 8) :
    s.sendPoll m n d = (s.setStr m ((s.str m).begin n
      { dock := d, aliasSent := (s.desc d).aliasNo, kind := .ordinary, serial := (s.ctx d).carried.map Prod.snd,
        discarded := false }
      (ordinaryPoll (s.desc d).aliasNo (s.ctx d).carried (if (s.ctx d).unsent then some (s.shown d) else none)))).modCtx d
        DockContext.polledOnce := by simp only [State.sendPoll, passFor_eq_none h]

/-- Settles O40: no member, the pass of the chosen dock, or its ORDINARY poll. -/
theorem pollSend : Obligations.PollSend := by
  rintro s m hrun hl line rfl
  rw [exec_pollSend hrun]
  refine ⟨fun hempty => ?_, fun n d hnext => ⟨fun payload hpass => ?_, ?_⟩⟩
  · rw [takePollSend_none hl (chooseNext_empty hempty)]
    rfl
  · rw [takePollSend_some hl hnext, sendPoll_pass hpass]
    rfl
  · rintro hother shown rfl
    rw [takePollSend_some hl hnext, sendPoll_ordinary hother, ordinaryPoll_eq, carried_serial, shown_eq,
      funext polledOnce_eq]
    rfl

/-! ## The end of an exchange (R138, R139, R145) -/

theorem clearLine_eq (s : State) (m : StringId) (x : StringMaster) :
    s.clearLine m x = s.setStr m (if s.members m = [] then x.goIdle else { x with line := .clearing }) := by
  simp only [State.clearLine, List.isEmpty_iff]

theorem closeExchange_eq (s : State) (m : StringId) : s.closeExchange m = exchangeOver s m := clearLine_eq s m _

theorem windowOpen_eq {e : Exchange} {kind : PollKind} (h : WindowOpen s m e kind) : (s.str m).windowOpen kind = some e := by
  obtain ⟨-, hex, hl, hdriver, hkind⟩ := h
  simp [StringMaster.windowOpen, hex, hl, hdriver, hkind]

theorem tryTest_eq (s : State) (d : DockNo) (carried : Option Byte) : s.tryTest d carried =
    if (s.ctx d).order ≠ none ∧ carried = some (s.ctx d).serial ∧ (s.ctx d).tries = 3 then s.orderFailed d else s := by
  simp only [State.tryTest, Option.isSome_iff_ne_none]

section
variable {e : Exchange} {rx : List Byte}

theorem exec_ordinaryExchangeEnd (h : WindowOpen s m e .ordinary) (rx : List Byte) : exec (.ordinaryExchangeEnd m rx) s =
    .next (if e.discarded then exchangeOver s m else ((exchangeOver s m).takeWindow e rx).tryTest e.dock e.serial) := by
  have hrun : exec (.ordinaryExchangeEnd m rx) s = .next (takeOrdinaryEnd m rx s) := whenRunning_next h.1 (takeOrdinaryEnd m rx)
  rw [hrun, takeOrdinaryEnd, windowOpen_eq h, ← closeExchange_eq]

theorem takeWindow_good {r : Reply} (h : goodReply e.aliasSent rx = some r) (s : State) :
    s.takeWindow e rx = s.takeReply e.dock r := by rw [State.takeWindow, h]

theorem takeWindow_silent (h : goodReply e.aliasSent rx = none) (hrx : rx = []) (s : State) :
    s.takeWindow e rx = s.takeMiss e.dock := by rw [State.takeWindow, h, hrx]; rfl

theorem takeWindow_spoiled (h : goodReply e.aliasSent rx = none) (hrx : rx ≠ []) (s : State) :
    s.takeWindow e rx = (s.countCrc e.dock).takeMiss e.dock := by
  rw [State.takeWindow, h]
  dsimp only
  rw [if_neg (by simpa using hrx)]

end

theorem exchangeOver_ctx (s : State) (m : StringId) (d : DockNo) : (exchangeOver s m).ctx d = s.ctx d := setStr_ctx ..

/-- Settles O41: the exchange closed, its window taken, and the try test last. -/
theorem ordinaryExchangeEnd : Obligations.OrdinaryExchangeEnd := by
  rintro s m e rx hopen done rfl
  simp only [exec_ordinaryExchangeEnd hopen, ← tryTest_eq]
  refine ⟨fun hdis => by rw [if_pos hdis], fun hdis => ?_⟩
  rw [if_neg (by simp [hdis])]
  refine ⟨fun r hr => ?_, fun hnone => ⟨fun hrx => ?_, fun hrx => ?_⟩⟩
  · rw [takeWindow_good hr, State.takeReply, exchangeOver_ctx]
  · rw [takeWindow_silent hnone hrx]
  · rw [takeWindow_spoiled hnone hrx]
    rfl

/-- Settles O42: the slot emptied, then the one HEAD_REPLY of the window. -/
theorem passExchangeEnd : Obligations.PassExchangeEnd := by
  rintro s m e rx hopen t rfl answer rfl
  have hrun : exec (.passExchangeEnd m rx) s = .next (takePassEnd m rx s) := whenRunning_next hopen.1 (takePassEnd m rx)
  rw [hrun, takePassEnd, windowOpen_eq hopen, closeExchange_eq]
  dsimp only
  refine ⟨fun hdis => by rw [if_pos hdis]; rfl, fun hdis => ?_⟩
  rw [if_neg (by simp [hdis])]
  refine ⟨fun payload hgood => by rw [hgood]; rfl, fun hnone => ?_⟩
  rw [hnone]
  dsimp only
  exact ⟨fun hrx => by rw [if_pos (by simpa using hrx)]; rfl, fun hrx => by rw [if_neg (by simpa using hrx)]; rfl⟩

/-! ## The line watchdog and recovery (R134, R140, R141) -/

/-- Settles O43: each event of the line where its condition holds. -/
theorem lineRecovery : Obligations.LineRecovery := by
  intro s m hrun
  refine ⟨fun hl => ?_, fun hl => ?_, fun hl hpulses => ?_, fun hl htimer => ?_⟩
  · exact (whenRunning_next hrun (takePollLastCharacterEnd m)).trans (congrArg _ (if_pos hl))
  · exact (whenRunning_next hrun (takeLineStuck m)).trans (congrArg _ (if_pos hl))
  · exact (whenRunning_next hrun (takePulsesDone m)).trans (congrArg _ (if_pos ⟨hl, hpulses⟩))
  · refine (whenRunning_next hrun (takeRecoveryExpiry m)).trans (congrArg _ ?_)
    rw [takeRecoveryExpiry, if_pos ⟨hl, Option.isSome_iff_ne_none.2 htimer⟩, clearLine_eq]
    rfl

end Sys2Proof.Machine
end

section
/-! HEAD_PASS: the body judged in the order of R143. -/

namespace Sys2Proof.Machine

variable {s : State} {m : StringId} {d : DockNo} {b : Byte} {payload : List Byte}

/-- A HEAD_PASS of any payload that a frame can hold is taken after its acceptance. -/
theorem exec_headPass {code : Half} (h : Listening s code) (hp : payload.length ≤ 1023) (b : Byte) :
    exec (.headPass code (b :: payload)) s = .next (takeHeadPass (b :: payload) s.heard) := by
  have hlen : (b :: payload).length ≤ 1024 := Nat.succ_le_succ hp
  rw [exec_of_frameOf (i := .headPass code _) rfl, receive_accepted h .headPass hlen]
  rfl

theorem takeHeadPass_above (h : 47 < b.toNat) : takeHeadPass (b :: payload) s = s.offer (.headReply b .noDock []) := by
  have hdock : dockOfByte (byteAt (b :: payload) 0) = none := dockOfByte_above h
  rw [takeHeadPass, hdock]
  rfl

/-- A HEAD_PASS about one of the 48 docks, by the payload's length and the dock's polled condition. -/
theorem takeHeadPass_at (h : d.val = b.toNat) : takeHeadPass (b :: payload) s =
    if 64 < payload.length then s.offer (.headReply b .badLength [])
    else if s.polled d then
      match stringOf s.params d with
      | some m => s.passAt m d payload
      | none => s.offer (.headReply b .noDock [])
    else s.offer (.headReply b .noDock []) := by
  have hdock : dockOfByte (byteAt (b :: payload) 0) = some d := dockOfByte_of_eq h
  rw [takeHeadPass, hdock]
  simp only [headReplyOf, natByte_of_eq h]
  rfl

theorem takeHeadPass_long (h : d.val = b.toNat) (hlong : 64 < payload.length) :
    takeHeadPass (b :: payload) s = s.offer (.headReply b .badLength []) := by rw [takeHeadPass_at h, if_pos hlong]

theorem takeHeadPass_unpolled (h : d.val = b.toNat) (hfits : payload.length ≤ 64) (hpolled : s.polled d = false) :
    takeHeadPass (b :: payload) s = s.offer (.headReply b .noDock []) := by
  rw [takeHeadPass_at h, if_neg (Nat.not_lt.2 hfits), if_neg (by simp [hpolled])]

theorem takeHeadPass_polled (h : d.val = b.toNat) (hfits : payload.length ≤ 64) (hpolled : s.polled d = true)
    (hstring : stringOf s.params d = some m) : takeHeadPass (b :: payload) s = s.passAt m d payload := by
  rw [takeHeadPass_at h, if_neg (Nat.not_lt.2 hfits), if_pos hpolled, hstring]

theorem passAt_reduced (h : d.val = b.toNat) (hr : (s.ctx d).state = .absent ∨ 8 ≤ (s.ctx d).missCount) :
    s.passAt m d payload = s.offer (.headReply b .noDock []) := by
  have hreduced : s.reduced d = true := by simpa [State.reduced] using hr
  rw [State.passAt, if_pos hreduced, headReplyOf, natByte_of_eq h]

/-- A pass to a dock that answers finds the slot taken or enters it. -/
theorem passAt_answering (h : d.val = b.toNat) (hstate : (s.ctx d).state ≠ .absent) (hmiss : (s.ctx d).missCount < 8) :
    s.passAt m d payload = if (s.str m).headPass ≠ none then s.offer (.headReply b .busy [])
      else s.setStr m { s.str m with headPass := some { dock := d, payload := payload } } := by
  have hreduced : ¬s.reduced d = true := by simp [State.reduced, hstate, hmiss]
  rw [State.passAt, if_neg hreduced, headReplyOf, natByte_of_eq h]
  simp only [Option.isSome_iff_ne_none]

/-- Settles O35: the frame is judged at the state that its acceptance leaves, which keeps the rows, the String Masters and all that
a context holds but the unsent mark. -/
theorem headPassIsJudgedInOrder : Obligations.HeadPassIsJudgedInOrder := by
  intro code b payload s hl hp
  rw [exec_headPass hl hp]
  refine ⟨fun habove => by rw [takeHeadPass_above habove], fun d hd =>
    ⟨fun hlong => by rw [takeHeadPass_long hd hlong], fun hfits => ⟨fun hun => ?_, fun m hpolled hstring => ?_⟩⟩⟩
  · rw [takeHeadPass_unpolled hd hfits ((heard_polled s d).trans hun)]
  · rw [takeHeadPass_polled hd hfits ((heard_polled s d).trans hpolled) (by rw [heard_params, hstring]),
      ← heard_ctx_state, ← heard_ctx_missCount, ← heard_str s m]
    refine ⟨fun hr => by rw [passAt_reduced hd hr], fun hstate hmiss => ?_⟩
    rw [passAt_answering hd hstate hmiss]
    exact ⟨fun htaken => by rw [if_pos htaken], fun hempty => by rw [if_neg (not_not.2 hempty)]⟩

end Sys2Proof.Machine
end

section
/-! Dock replies: a reply written out by its layout and what a window that begins with it brings (R135 to R137, R144). -/

namespace Sys2Proof.Machine

/-! ## Windows (R135) -/

/-- The fields that give a reply's length give it whatever follows them. -/
theorem replyLength_append {rx : List Byte} {n : Nat} (h : replyLength rx = some n) (more : List Byte) :
    replyLength (rx ++ more) = some n := by
  unfold replyLength at h
  split at h
  · cases h
  · next h3 =>
    have hcontrol : byteAt (rx ++ more) 1 = byteAt rx 1 := byteAt_append_left _ _ (by omega)
    have hthird : byteAt (rx ++ more) 2 = byteAt rx 2 := byteAt_append_left _ _ (by omega)
    rw [replyLength, if_neg (by simp; omega), hcontrol, hthird]
    split at h
    · next hpass => rw [if_pos hpass, h]
    · next hpass =>
      split at h
      · cases h
      · next h4 =>
        have hcode : byteAt (rx ++ more) 3 = byteAt rx 3 := byteAt_append_left _ _ (by omega)
        rw [if_neg hpass, if_neg (by simp; omega), hcode]
        exact h

section
variable {reply : List Byte} (h : replyLength reply = some reply.length)
include h

theorem windowOf_complete (hne : reply ≠ []) (more : List Byte) : windowOf (reply ++ more) = .complete reply := by
  have hcame : ¬(reply ++ more).isEmpty = true := by simp [hne]
  rw [windowOf, if_neg hcame, replyLength_append h]
  simp

/-- A reply cut short is not complete. -/
theorem windowOf_cut {n : Nat} (hn : n < reply.length) (r : List Byte) : windowOf (reply.take n) ≠ .complete r := by
  have hshort : (reply.take n).length < reply.length := by simp; omega
  have hlen : ∀ k, replyLength (reply.take n) = some k → k = reply.length := fun k hk => by
    have hwhole := replyLength_append hk (reply.drop n)
    rw [List.take_append_drop, h] at hwhole
    exact (Option.some.inj hwhole).symm
  unfold windowOf
  split
  · exact Window.noConfusion
  · split
    · next k hk =>
      rw [if_neg (by rw [hlen k hk]; omega)]
      exact Window.noConfusion
    · exact Window.noConfusion

theorem goodReply_cut {n : Nat} (hn : n < reply.length) (a : Byte) : goodReply a (reply.take n) = none := by
  unfold goodReply
  split
  · next hc => exact absurd hc (windowOf_cut h hn _)
  · rfl

theorem goodReply_complete (hne : reply ≠ []) (a : Byte) (more : List Byte) : goodReply a (reply ++ more) =
    if replyChecks a reply && !(byteAt reply 1).getLsbD 7 then some (replyFields reply) else none := by
  rw [goodReply, windowOf_complete h hne]

theorem goodPassReply_complete (hne : reply ≠ []) (a : Byte) (more : List Byte) : goodPassReply a (reply ++ more) =
    if replyChecks a reply && (byteAt reply 1).getLsbD 7 && decide ((byteAt reply 2).toNat ≤ 24) then
      some ((reply.drop 3).take (byteAt reply 2).toNat)
    else none := by rw [goodPassReply, windowOf_complete h hne]

end

/-! ## The CRC and the address (R137) -/

theorem replyCrcGood_iff (core : List Byte) (crc : Half) :
    replyCrcGood (core ++ halfBytes crc) = true ↔ crc = crc16 core := by
  have hlen : (core ++ halfBytes crc).length - 2 = core.length := by simp
  have hcrc : halfAt (core ++ halfBytes crc) core.length = crc := by
    simpa using halfAt_append core [] crc core.length rfl
  rw [replyCrcGood, hlen, hcrc, List.take_left, beq_iff_eq, eq_comm]

theorem replyChecks_iff (a b : Byte) (rest : List Byte) (crc : Half) :
    replyChecks b (a :: rest ++ halfBytes crc) = true ↔ crc = crc16 (a :: rest) ∧ b = a := by
  have hfirst : byteAt (a :: rest ++ halfBytes crc) 0 = a := rfl
  rw [replyChecks, Bool.and_eq_true, replyCrcGood_iff, hfirst, beq_iff_eq, eq_comm (a := a)]

/-! ## The ORDINARY layout (R136) -/

/-- The control byte of an ORDINARY reply: its flags and no others. -/
def controlByte (bike latch id : Bool) : Byte :=
  (if latch then 1 else 0) ||| (if bike then 2 else 0) ||| (if id then 4 else 0)

theorem controlByte_flags (bike latch id : Bool) :
    (controlByte bike latch id).getLsbD 0 = latch ∧ (controlByte bike latch id).getLsbD 1 = bike ∧
    (controlByte bike latch id).getLsbD 2 = id ∧ (controlByte bike latch id).getLsbD 7 = false := by
  revert bike latch id
  decide

/-- The event of an ORDINARY reply by its code and the bytes it adds (R136). -/
def EventBytes (code : Byte) (extra : List Byte) (event : ReplyEvent) : Prop :=
  (code = 0 ∧ extra = [] ∧ event = .nothing) ∨ (code = 1 ∧ extra.length = 20 ∧ event = .tap (tokenOf extra)) ∨
    (code = 2 ∧ extra = [] ∧ event = .lift) ∨ (code = 3 ∧ extra = [] ∧ event = .docked) ∨
    (∃ fault, code = 4 ∧ extra = [fault] ∧ event = .fault fault)

/-- The bytes of a bike id, if the reply has one. -/
def idBytes (id : Option Word) : List Byte := (id.map wordBytes).getD []

/-- An ORDINARY reply before its CRC (10.7). -/
def replyCore (a serial code : Byte) (bike latch : Bool) (id : Option Word) (extra : List Byte) : List Byte :=
  [a, controlByte bike latch id.isSome, serial, code] ++ idBytes id ++ extra

theorem tokenOf_append {bs : List Byte} (h : bs.length = 20) (rest : List Byte) : tokenOf (bs ++ rest) = tokenOf bs := by
  have hword : ∀ i ≤ 16, wordAt (bs ++ rest) i = wordAt bs i := fun i hi => by
    unfold wordAt
    rw [byteAt_append_left, byteAt_append_left, byteAt_append_left, byteAt_append_left] <;> omega
  unfold tokenOf
  rw [hword 0 (by decide), hword 4 (by decide), hword 8 (by decide), hword 12 (by decide), hword 16 (by decide)]

section
variable {a serial code : Byte} {bike latch : Bool} {id : Option Word} {extra : List Byte} {event : ReplyEvent}

theorem idBytes_length (id : Option Word) : (idBytes id).length = if id.isSome then 4 else 0 := by cases id <;> rfl

theorem replyCore_length : (replyCore a serial code bike latch id extra).length =
    4 + (if id.isSome then 4 else 0) + extra.length := by
  simp only [replyCore, List.length_append, idBytes_length]
  rfl

/-- The length that the fields of an ORDINARY reply give is the reply's. -/
theorem replyLength_ordinary (h : EventBytes code extra event) (crc : Half) :
    replyLength (replyCore a serial code bike latch id extra ++ halfBytes crc) =
      some (replyCore a serial code bike latch id extra ++ halfBytes crc).length := by
  obtain ⟨-, -, hid, hpass⟩ := controlByte_flags bike latch id.isSome
  have hhead : replyCore a serial code bike latch id extra ++ halfBytes crc =
      [a, controlByte bike latch id.isSome, serial, code] ++ (idBytes id ++ extra ++ halfBytes crc) := by
    simp [replyCore]
  have hlen : (replyCore a serial code bike latch id extra ++ halfBytes crc).length =
      6 + extra.length + if id.isSome then 4 else 0 := by
    rw [List.length_append, replyCore_length, halfBytes_length]
    omega
  rw [hlen, hhead]
  apply replyLength_append
  have hcontrol : byteAt [a, controlByte bike latch id.isSome, serial, code] 1 = controlByte bike latch id.isSome := rfl
  have hcode : byteAt [a, controlByte bike latch id.isSome, serial, code] 3 = code := rfl
  rw [replyLength, if_neg (by simp), hcontrol, hpass, if_neg (by simp), if_neg (by simp), hcode, hid]
  rcases h with ⟨rfl, rfl, -⟩ | ⟨rfl, hx, -⟩ | ⟨rfl, rfl, -⟩ | ⟨rfl, rfl, -⟩ | ⟨fault, rfl, rfl, -⟩
  case inr.inl => rw [hx]; rfl
  all_goals rfl

/-- Every field of an ORDINARY reply is read back. -/
theorem replyFields_ordinary (h : EventBytes code extra event) (crc : Half) :
    replyFields (replyCore a serial code bike latch id extra ++ halfBytes crc) =
      { bike := bike, latchClosed := latch, bikeId := id, serial := serial, event := event } := by
  obtain ⟨hlatch, hbike, hid, -⟩ := controlByte_flags bike latch id.isSome
  generalize hr : replyCore a serial code bike latch id extra ++ halfBytes crc = reply
  have hcontrol : byteAt reply 1 = controlByte bike latch id.isSome := by rw [← hr]; rfl
  have hserial : byteAt reply 2 = serial := by rw [← hr]; rfl
  have hcode : byteAt reply 3 = code := by rw [← hr]; rfl
  have hword : (if id.isSome then some (wordAt reply 4) else none) = id := by
    cases id with
    | none => rfl
    | some w => rw [← hr]; exact congrArg some (wordAt_of_drop rfl)
  have hextra : reply.drop (if id.isSome then 8 else 4) = extra ++ halfBytes crc := by rw [← hr]; cases id <;> rfl
  have hcause : byteAt reply (if id.isSome then 8 else 4) = byteAt (extra ++ halfBytes crc) 0 := by
    rw [← hextra]
    exact byteAt_add reply _ 0
  simp only [replyFields, hcontrol, hserial, hcode, hlatch, hbike, hid, hword, hextra, Reply.mk.injEq, true_and]
  rcases h with ⟨rfl, -, rfl⟩ | ⟨rfl, hx, rfl⟩ | ⟨rfl, -, rfl⟩ | ⟨rfl, -, rfl⟩ | ⟨fault, rfl, rfl, rfl⟩
  case inr.inl => exact congrArg ReplyEvent.tap (tokenOf_append hx _)
  case inr.inr.inr.inr => exact congrArg ReplyEvent.fault hcause
  all_goals rfl

/-- What a window that begins with an ORDINARY reply brings, by the address polled and the CRC it was closed by. -/
theorem goodReply_ordinary (h : EventBytes code extra event) (b : Byte) (crc : Half) (more : List Byte) :
    goodReply b (replyCore a serial code bike latch id extra ++ halfBytes crc ++ more) =
      if crc = crc16 (replyCore a serial code bike latch id extra) ∧ b = a then
        some { bike := bike, latchClosed := latch, bikeId := id, serial := serial, event := event }
      else none := by
  obtain ⟨-, -, -, hpass⟩ := controlByte_flags bike latch id.isSome
  have hcontrol : byteAt (replyCore a serial code bike latch id extra ++ halfBytes crc) 1 =
      controlByte bike latch id.isSome := rfl
  have hchecks := replyChecks_iff a b ([controlByte bike latch id.isSome, serial, code] ++ idBytes id ++ extra) crc
  rw [goodReply_complete (replyLength_ordinary h crc) (by simp [replyCore]), replyFields_ordinary h, hcontrol, hpass]
  simp only [Bool.not_false, Bool.and_true]
  exact if_congr hchecks rfl rfl

end

/-! ## The PASS layout (R144) -/

/-- A PASS reply before its CRC (10.7). -/
def passCore (a : Byte) (payload : List Byte) : List Byte := [a, 0x80, natByte payload.length] ++ payload

theorem passCore_kind (a : Byte) (payload : List Byte) (crc : Half) :
    (byteAt (passCore a payload ++ halfBytes crc) 1).getLsbD 7 = true := by
  have hcontrol : byteAt (passCore a payload ++ halfBytes crc) 1 = 0x80 := rfl
  rw [hcontrol]
  decide

section
variable {payload : List Byte} (h : payload.length ≤ 24)
include h

theorem passSize : (natByte payload.length).toNat = payload.length := by
  simp only [natByte, BitVec.toNat_ofNat]
  omega

theorem replyLength_pass (a : Byte) (crc : Half) :
    replyLength (passCore a payload ++ halfBytes crc) = some (passCore a payload ++ halfBytes crc).length := by
  have hlen : (passCore a payload ++ halfBytes crc).length = 5 + (natByte payload.length).toNat := by
    rw [passSize h]
    simp [passCore]
    omega
  rw [hlen, replyLength, if_neg (by simp [passCore]), if_pos (passCore_kind a payload crc)]
  rfl

/-- A PASS reply gives back its payload. -/
theorem goodPassReply_pass (a : Byte) (more : List Byte) :
    goodPassReply a (passCore a payload ++ halfBytes (crc16 (passCore a payload)) ++ more) = some payload := by
  generalize hcrc : crc16 (passCore a payload) = crc
  have hchecks : replyChecks a (passCore a payload ++ halfBytes crc) = true :=
    (replyChecks_iff a a ([0x80, natByte payload.length] ++ payload) crc).2 ⟨hcrc.symm, rfl⟩
  have hpass := passCore_kind a payload crc
  have hsize : (byteAt (passCore a payload ++ halfBytes crc) 2).toNat = payload.length := passSize h
  have hdrop : (passCore a payload ++ halfBytes crc).drop 3 = payload ++ halfBytes crc := rfl
  rw [goodPassReply_complete (replyLength_pass h a crc) (by simp [passCore]), hchecks, hpass, hsize, hdrop, List.take_left,
    decide_eq_true h]
  rfl

/-- A PASS reply is no good ORDINARY reply, whatever its CRC. -/
theorem goodReply_pass (a : Byte) (crc : Half) (more : List Byte) :
    goodReply a (passCore a payload ++ halfBytes crc ++ more) = none := by
  have hpass := passCore_kind a payload crc
  rw [goodReply_complete (replyLength_pass h a crc) (by simp [passCore]), hpass, Bool.not_true, Bool.and_false]
  rfl

end

/-- Settles O44: the layout gives the length, the length the window, the window's checks and fields the reply. -/
theorem replyBytesReadBack : Obligations.ReplyBytesReadBack := by
  refine ⟨fun a serial code bike latch id extra more event hevent core hcore => ?_, fun a payload more core hp hcore => ?_⟩
  case refine_2 =>
    obtain rfl : core = passCore a payload := hcore
    exact ⟨goodPassReply_pass hp a more, goodReply_pass hp a _ more⟩
  have hlayout : core = replyCore a serial code bike latch id extra := by rw [hcore]; cases id <;> rfl
  subst hlayout
  refine ⟨?_, fun b hb => ?_, fun crc hcrc => ?_, fun n hn => ?_⟩
  · rw [goodReply_ordinary hevent, if_pos ⟨rfl, rfl⟩]
  · rw [goodReply_ordinary hevent, if_neg (fun h => hb h.2)]
  · rw [goodReply_ordinary hevent, if_neg (fun h => hcrc h.1)]
  · exact goodReply_cut (replyLength_ordinary hevent _) (by simpa using hn) a

end Sys2Proof.Machine
end

section
/-! A commit of DOCK or PARAM rows at the String Masters: lines, exchanges in flight, waiting passes (R146, R147). -/

namespace Sys2Proof.Machine

variable {s t : State} {m n : StringId} {p : HeadPass} {descs : Vector DockDesc 48} {params : Params}

/-! ## One String Master (R147) -/

theorem afterCommit_eq (x : StringMaster) (m : StringId) (old new : State) : x.afterCommit m old new =
    if x.line = .idle ∧ new.members m ≠ [] then
      { x with exchange := x.exchange.map (·.afterCommit old new), line := .clearing, cycle := 0, position := none }
    else { x with exchange := x.exchange.map (·.afterCommit old new) } := by
  simp only [StringMaster.afterCommit, List.isEmpty_eq_false_iff]

theorem afterCommit_exchange (x : StringMaster) (m : StringId) (old new : State) :
    (x.afterCommit m old new).exchange = x.exchange.map (·.afterCommit old new) := by
  rw [afterCommit_eq]
  split <;> rfl

theorem afterCommit_headPass (x : StringMaster) (m : StringId) (old new : State) :
    (x.afterCommit m old new).headPass = x.headPass := by
  rw [afterCommit_eq]
  split <;> rfl

/-- Beyond line, cycle count, position and exchange a commit leaves a String Master's fields to the waiting passes. -/
theorem afterCommit_rest (x : StringMaster) (m : StringId) (old new : State) : x.afterCommit m old new =
    { x with line := (x.afterCommit m old new).line, cycle := (x.afterCommit m old new).cycle
             position := (x.afterCommit m old new).position, exchange := (x.afterCommit m old new).exchange } := by
  rw [afterCommit_eq]
  split <;> rfl

/-- A String Master that is IDLE leaves it for CLEARING when its string has a member. -/
theorem afterCommit_leaves {x : StringMaster} {new : State} (hl : x.line = .idle) (hm : new.members m ≠ []) (old : State) :
    (x.afterCommit m old new).line = .clearing ∧ (x.afterCommit m old new).cycle = 0 ∧
    (x.afterCommit m old new).position = none := by
  rw [afterCommit_eq, if_pos ⟨hl, hm⟩]
  exact ⟨rfl, rfl, rfl⟩

theorem afterCommit_stays {x : StringMaster} {new : State} (h : x.line ≠ .idle ∨ new.members m = []) (old : State) :
    (x.afterCommit m old new).line = x.line ∧ (x.afterCommit m old new).cycle = x.cycle ∧
    (x.afterCommit m old new).position = x.position := by
  rw [afterCommit_eq, if_neg (not_and_or.2 (h.imp_right not_not.2))]
  exact ⟨rfl, rfl, rfl⟩

/-- What a commit does at a String Master goes by the rows that it leaves. -/
theorem afterCommit_congr (hd : t.descs = s.descs) (hp : t.params = s.params) (x : StringMaster) (m : StringId) (old : State) :
    x.afterCommit m old t = x.afterCommit m old s := by
  have hexchange : (Exchange.afterCommit · old t) = (Exchange.afterCommit · old s) := funext fun e => by
    simp only [Exchange.afterCommit, hd, hp]
  simp only [afterCommit_eq, members_congr hd hp, hexchange]

theorem exchange_afterCommit_kind (e : Exchange) (old new : State) : (e.afterCommit old new).kind = e.kind := by
  unfold Exchange.afterCommit
  split <;> rfl

theorem passInFlight_eq_false {x : StringMaster} :
    x.passInFlight = false ↔ ∀ e, x.exchange = some e → e.kind = .ordinary := by
  unfold StringMaster.passInFlight
  cases x.exchange with
  | none => simp
  | some e => cases hkind : e.kind <;> simp [hkind]

theorem afterCommit_passInFlight (x : StringMaster) (m : StringId) (old new : State) :
    (x.afterCommit m old new).passInFlight = x.passInFlight := by
  rw [StringMaster.passInFlight, StringMaster.passInFlight, afterCommit_exchange]
  cases x.exchange with
  | none => rfl
  | some e => exact congrArg (· == PollKind.pass) (exchange_afterCommit_kind e old new)

/-- The address of a dock changes with its polled condition, its address on the line or its string. -/
theorem address_ne_iff (s t : State) (d : DockNo) : address s.descs s.params d ≠ address t.descs t.params d ↔
    s.polled d ≠ t.polled d ∨ (s.desc d).aliasNo ≠ (t.desc d).aliasNo ∨ stringOf s.params d ≠ stringOf t.params d := by
  simp only [address, ne_eq, Prod.mk.injEq, not_and_or]
  rfl

/-! ## A waiting pass (R146) -/

/-- A pass that waits in the slot of a string of which its dock is no member. -/
def State.passLost (s : State) (m : StringId) (p : HeadPass) : Prop :=
  (s.str m).headPass = some p ∧ (s.str m).passInFlight = false ∧ s.member m p.dock = false

theorem passLost_congr (hstr : t.str m = s.str m) (hd : t.descs = s.descs) (hp : t.params = s.params) :
    t.passLost m p ↔ s.passLost m p := by
  simp only [State.passLost, State.member, hstr, polled_congr hd hp, hp]

theorem passAfterCommit_lost (h : s.passLost m p) :
    s.passAfterCommit m = (s.emptySlot m).offer (headReplyOf p.dock .noDock []) := by
  obtain ⟨hslot, hwaits⟩ := h
  rw [State.passAfterCommit, hslot]
  exact if_pos hwaits

theorem passAfterCommit_kept (h : ∀ p, ¬s.passLost m p) : s.passAfterCommit m = s := by
  unfold State.passAfterCommit
  split
  · next p hslot => exact if_neg fun hwaits => h p ⟨hslot, hwaits⟩
  · rfl

theorem passAfterCommit_descs (s : State) (m : StringId) : (s.passAfterCommit m).descs = s.descs :=
  passAfterCommit_keeps State.descs offer_descs setStr_descs s m

theorem passAfterCommit_str_ne (s : State) (h : m ≠ n) : (s.passAfterCommit m).str n = s.str n := by
  unfold State.passAfterCommit
  split
  · split
    · rw [offer_str, State.emptySlot, str_setStr_ne _ _ h]
    · rfl
  · rfl

theorem passAfterCommit_str_lost (h : s.passLost m p) : (s.passAfterCommit m).str m = { s.str m with headPass := none } := by
  rw [passAfterCommit_lost h, offer_str, State.emptySlot, str_setStr_self]

/-! ## The queue after the replies about the lost passes -/

/-- The Uplink Queue with its drop count. -/
def State.queue (s : State) : List Uplink × Nat := (s.uplink, s.drops)

theorem offer_queue (s : State) (f : Uplink) : (s.offer f).queue =
    if s.queue.1.length < 64 then (s.queue.1 ++ [f], s.queue.2) else (s.queue.1, min 255 (s.queue.2 + 1)) :=
  apply_ite State.queue _ _ _

theorem queue_offer_congr (h : s.queue = t.queue) (f : Uplink) : (s.offer f).queue = (t.offer f).queue := by
  rw [offer_queue, offer_queue, h]

theorem queue_offers_congr (h : s.queue = t.queue) (fs : List Uplink) :
    (fs.foldl State.offer s).queue = (fs.foldl State.offer t).queue := by
  induction fs generalizing s t with
  | nil => exact h
  | cons f fs ih => exact ih (queue_offer_congr h f)

theorem setStr_queue (s : State) (m : StringId) (x : StringMaster) : (s.setStr m x).queue = s.queue := by
  rw [State.queue, setStr_uplink, setStr_drops, State.queue]

theorem passAfterCommit_queue {told : List Uplink} (hlost : ∀ p, s.passLost m p → told = [headReplyOf p.dock .noDock []])
    (hkept : (∀ p, ¬s.passLost m p) → told = []) : (s.passAfterCommit m).queue = (told.foldl State.offer s).queue := by
  by_cases h : ∃ p, s.passLost m p
  · obtain ⟨p, hp⟩ := h
    rw [passAfterCommit_lost hp, hlost p hp]
    exact queue_offer_congr (setStr_queue s m _) _
  · have hnone : ∀ p, ¬s.passLost m p := not_exists.1 h
    rw [passAfterCommit_kept hnone, hkept hnone]
    rfl

/-! ## Both strings -/

/-- The waiting passes of both strings after a commit, string A first. -/
def State.passesAfterCommit (s : State) : State := (s.passAfterCommit .a).passAfterCommit .b

theorem commitRows_passes {l : Loader} (h : l.table = some .dock ∨ l.table = some .param) (s : State) :
    s.commitRows l = (s.committed (s.newDescs l) (s.newParams l)).passesAfterCommit := commitRows_tables h s

theorem passesAfterCommit_descs (s : State) : s.passesAfterCommit.descs = s.descs :=
  (passAfterCommit_descs _ .b).trans (passAfterCommit_descs s .a)

theorem passesAfterCommit_params (s : State) : s.passesAfterCommit.params = s.params :=
  (passAfterCommit_params _ .b).trans (passAfterCommit_params s .a)

/-- String B loses the pass that it would lose without what string A does. -/
theorem passLost_second : (s.passAfterCommit .a).passLost .b p ↔ s.passLost .b p :=
  passLost_congr (passAfterCommit_str_ne s (by decide)) (passAfterCommit_descs s .a) (passAfterCommit_params s .a)

theorem passesAfterCommit_lost (h : s.passLost m p) :
    s.passesAfterCommit.str m = { s.str m with headPass := none } := by
  cases m with
  | a => rw [State.passesAfterCommit, passAfterCommit_str_ne _ (by decide), passAfterCommit_str_lost h]
  | b =>
    rw [State.passesAfterCommit, passAfterCommit_str_lost (passLost_second.2 h), passAfterCommit_str_ne _ (by decide)]

theorem passesAfterCommit_kept (h : ∀ p, ¬s.passLost m p) : s.passesAfterCommit.str m = s.str m := by
  cases m with
  | a => rw [State.passesAfterCommit, passAfterCommit_str_ne _ (by decide), passAfterCommit_kept h]
  | b =>
    rw [State.passesAfterCommit, passAfterCommit_kept fun p => passLost_second.not.2 (h p),
      passAfterCommit_str_ne _ (by decide)]

/-- Of a String Master the waiting passes write the slot alone. -/
theorem passesAfterCommit_str (s : State) (m : StringId) : ∃ slot,
    s.passesAfterCommit.str m = { s.str m with headPass := slot } ∧ (∀ p, s.passLost m p → slot = none) ∧
    ((∀ p, ¬s.passLost m p) → slot = (s.str m).headPass) := by
  by_cases h : ∃ p, s.passLost m p
  · obtain ⟨p, hp⟩ := h
    exact ⟨none, passesAfterCommit_lost hp, fun _ _ => rfl, fun hnone => absurd hp (hnone p)⟩
  · exact ⟨_, passesAfterCommit_kept (not_exists.1 h), fun p hp => absurd ⟨p, hp⟩ h, fun _ => rfl⟩

theorem passesAfterCommit_queue {told : StringId → List Uplink}
    (hlost : ∀ m p, s.passLost m p → told m = [headReplyOf p.dock .noDock []])
    (hkept : ∀ m, (∀ p, ¬s.passLost m p) → told m = []) :
    s.passesAfterCommit.queue = ((told .a ++ told .b).foldl State.offer s).queue := by
  have hfirst : (s.passAfterCommit .a).queue = ((told .a).foldl State.offer s).queue :=
    passAfterCommit_queue (hlost .a) (hkept .a)
  rw [List.foldl_append, ← queue_offers_congr hfirst]
  exact passAfterCommit_queue (fun p hp => hlost .b p (passLost_second.1 hp))
    fun h => hkept .b fun p hp => h p (passLost_second.2 hp)

/-! ## The commit -/

theorem committed_passLost : (s.committed descs params).passLost m p ↔ (s.str m).headPass = some p ∧
    (∀ e, (s.str m).exchange = some e → e.kind = .ordinary) ∧
    ¬((s.committed descs params).polled p.dock = true ∧ stringOf (s.committed descs params).params p.dock = some m) := by
  rw [State.passLost, str_committed, afterCommit_headPass, afterCommit_passInFlight, passInFlight_eq_false, State.member]
  simp

theorem committed_queue (s : State) (descs : Vector DockDesc 48) (params : Params) :
    (s.committed descs params).queue = s.queue := by
  rw [State.committed, setStr_queue, setStr_queue]
  rfl

/-- Settles O19: each line after the commit, then the waiting passes of string A and of string B. -/
theorem commitAtTheStringMasters : Obligations.CommitAtTheStringMasters := by
  intro l s hl t ht changed hchanged lost hlost
  generalize hq : s.committed (s.newDescs l) (s.newParams l) = q
  rw [commitRows_passes hl, hq] at ht
  have hdescs : t.descs = q.descs := by rw [ht, passesAfterCommit_descs]
  have hparams : t.params = q.params := by rw [ht, passesAfterCommit_params]
  have hline : ∀ m, q.str m = (s.str m).afterCommit m s t := fun m => by
    rw [afterCommit_congr hdescs hparams, ← hq, str_committed]
    exact afterCommit_congr rfl rfl _ m s
  have hlosing : ∀ m p, q.passLost m p ↔ lost m p := fun m p => by
    rw [hlost, polled_congr hdescs hparams, hparams, ← hq]
    exact committed_passLost
  refine ⟨fun m => ?_, fun told htold => ?_⟩
  · obtain ⟨slot, hstr, hgone, hkept⟩ := passesAfterCommit_str q m
    rw [← ht, hline] at hstr
    rw [hline, afterCommit_headPass] at hkept
    simp only [hlosing] at hgone hkept
    simp only [hstr, afterCommit_exchange]
    refine ⟨fun hidle hmem => afterCommit_leaves hidle hmem s, fun h => afterCommit_stays h s, fun hnone => by rw [hnone]; rfl,
      fun e he => ⟨fun h => ?_, fun h => ?_⟩, hgone, hkept, ?_⟩
    · rw [hchanged, ← address_ne_iff] at h
      rw [he]
      exact congrArg some (if_neg h)
    · rw [hchanged, ← address_ne_iff, not_not] at h
      rw [he]
      exact congrArg some (if_pos h)
    · rw [← afterCommit_exchange]
      exact congrArg (fun x : StringMaster => { x with headPass := slot }) (afterCommit_rest (s.str m) m s t)
  · have hqueue := passesAfterCommit_queue (s := q) (told := told)
      (fun m p hp => (htold m).1 p ((hlosing m p).1 hp))
      (fun m h => (htold m).2 fun p hp => h p ((hlosing m p).2 hp))
    have hbefore : q.queue = s.queue := by rw [← hq, committed_queue]
    rw [← ht, queue_offers_congr hbefore] at hqueue
    exact Prod.mk.inj hqueue

end Sys2Proof.Machine
end

section
/-! Window loads: LOAD_OPEN, LOAD_ABORT, LOAD_SEAL by the state of the loader (R151, R154, R155). -/

namespace Sys2Proof.Machine

/-- A fitting frame that is no STATION_RESET is taken by its owner, after its acceptance (R172, R173). -/
theorem exec_fitting {i : Instr} {k : DownKind} {code : Half} {body : List Byte} {s : State}
    (h : frameOf i = some (k, code, body)) (hl : Listening s code) (hb : body.length ≤ 1024) (hf : fits k body = true)
    (hk : k ≠ .stationReset) : exec i s = .next (s.heard.handOver k body) := by
  rw [exec_of_frameOf h, receive_accepted hl k hb, State.acceptFrame, if_pos hf, if_neg hk]

variable {s : State} {code : Half}

theorem loadReply_heard (s : State) (o : LoadOutcome) (n : Nat) :
    s.heard.loadReply o n = s.heard.offer (.loadReply s.loader.held o n) := by
  rw [State.loadReply, heard_loader]

/-! ## LOAD_OPEN and LOAD_ABORT (R151, R155) -/

theorem exec_loadOpen (h : Listening s code) (table first last flags : Byte) :
    exec (.loadOpen code [table, first, last, flags]) s = .next (takeLoadOpen [table, first, last, flags] s.heard) :=
  exec_fitting (i := .loadOpen code _) rfl h (by simp) rfl (by decide)

theorem exec_loadAbort (h : Listening s code) : exec (.loadAbort code []) s = .next (takeLoadAbort s.heard) :=
  exec_fitting (i := .loadAbort code _) rfl h (by simp) rfl (by decide)

/-- The window of a LOAD_OPEN is good exactly when its table is known and the rows lie in it, in order. -/
theorem goodWindow_eq_some_iff {table first last flags : Byte} {t : TableId} :
    goodWindow [table, first, last, flags] = some t ↔
      tableOf table = some t ∧ first.toNat ≤ last.toNat ∧ last.toNat < tableRows t := by
  have hbody : goodWindow [table, first, last, flags] =
      (tableOf table).bind fun t => if first.toNat ≤ last.toNat ∧ last.toNat < tableRows t then some t else none := by
    change (match tableOf table with | none => none | some t => _) = _
    cases tableOf table <;> rfl
  rw [hbody, Option.bind_eq_some_iff]
  constructor
  · rintro ⟨u, hu, hif⟩
    split at hif
    · next hw =>
      cases hif
      exact ⟨hu, hw⟩
    · cases hif
  · rintro ⟨ht, hw⟩
    exact ⟨t, ht, if_pos hw⟩

theorem takeLoadOpen_busy (h : s.loader.state ≠ .idle) (body : List Byte) :
    takeLoadOpen body s = s.loadReply .loaderBusy 0 := if_pos h

theorem takeLoadOpen_badWindow {body : List Byte} (h : s.loader.state = .idle) (hw : goodWindow body = none) :
    takeLoadOpen body s = s.loadReply .badWindow 0 := by
  rw [takeLoadOpen, if_neg (not_not.2 h), hw]

theorem takeLoadOpen_opens {table first last flags : Byte} {t : TableId} (h : s.loader.state = .idle)
    (hw : goodWindow [table, first, last, flags] = some t) : takeLoadOpen [table, first, last, flags] s =
      State.loadReply { s with loader := s.loader.openWindow t first.toNat last.toNat (flags.getLsbD 0) } .opened 0 := by
  rw [takeLoadOpen, if_neg (not_not.2 h), hw]
  rfl

/-- Nothing is held in IDLE. -/
theorem held_of_idle (hs : LoadsSound s) (h : s.loader.state = .idle) : s.loader.held = none := by
  obtain ⟨⟨hidle, -⟩, -⟩ := hs
  obtain ⟨htable, -⟩ := hidle h
  rw [Loader.held, htable]

/-- Settles O13: the frame is judged by the loader that its acceptance leaves, which is the loader as it was. -/
theorem loadOpensAndAborts : Obligations.LoadOpensAndAborts := by
  intro code table first last flags s hl hs
  rw [exec_loadOpen hl, exec_loadAbort hl]
  have hheard : s.heard.loader.state = s.loader.state := by rw [heard_loader]
  refine ⟨fun hbusy => ⟨?_, ?_⟩, fun hidle => ⟨?_, fun hbad => ?_, fun t ht hle hlt => ?_⟩⟩
  · rw [takeLoadOpen_busy (by rwa [hheard]), loadReply_heard, heldReply]
  · rw [takeLoadAbort, if_neg (by rwa [hheard]), heard_loader]
    rfl
  · rw [takeLoadAbort, if_pos (by rwa [hheard]), loadReply_heard, held_of_idle hs hidle]
  · have hnone : goodWindow [table, first, last, flags] = none :=
      Option.eq_none_iff_forall_ne_some.2 fun t ht => hbad ⟨t, goodWindow_eq_some_iff.1 ht⟩
    rw [takeLoadOpen_badWindow (by rwa [hheard]) hnone, loadReply_heard, held_of_idle hs hidle]
  · rw [takeLoadOpen_opens (by rwa [hheard]) (goodWindow_eq_some_iff.2 ⟨ht, hle, hlt⟩)]
    rfl

/-! ## LOAD_SEAL (R154) -/

theorem exec_loadSeal (h : Listening s code) (sum : Word) (count : Half) :
    exec (.loadSeal code (wordBytes sum ++ halfBytes count)) s =
      .next (takeLoadSeal (wordBytes sum ++ halfBytes count) s.heard) :=
  exec_fitting (i := .loadSeal code _) rfl h (by simp) rfl (by decide)

theorem trimmed_eq (l : Loader) :
    l.trimmed = { l with buffer := [], short := if l.buffer = [] then l.short else true } := by
  unfold Loader.trimmed
  split
  · next h =>
    have hbuffer : l.buffer = [] := List.isEmpty_iff.1 h
    rw [if_pos hbuffer, ← hbuffer]
  · next h => rw [if_neg fun hbuffer => h (List.isEmpty_iff.2 hbuffer)]

/-- The loader in IDLE after a seal, whose partial row has gone already. -/
theorem goIdle_of_empty {l : Loader} (h : l.buffer = []) :
    l.goIdle = { l with state := .idle, table := none, window := none, staging := [] } := by
  rw [Loader.goIdle, ← h]

theorem endLoad_of_empty {l : Loader} (h : l.buffer = []) (s : State) (o : LoadOutcome) : s.endLoad l o =
    { s with loader := { l with state := .idle, table := none, window := none, staging := [] } }.offer
      (.loadReply l.held o l.completed) := by rw [State.endLoad, goIdle_of_empty h]

section
variable {sum : Word} {count : Half}

theorem takeLoadSeal_notOpen (h : s.loader.state ≠ .opened) (body : List Byte) :
    takeLoadSeal body s = s.loadReply .notOpen 0 := if_neg h

theorem wordAt_seal (sum : Word) (count : Half) : wordAt (wordBytes sum ++ halfBytes count) 0 = sum := wordAt_of_drop rfl

theorem halfAt_seal (sum : Word) (count : Half) : halfAt (wordBytes sum ++ halfBytes count) 4 = count :=
  halfAt_of_drop (rest := []) rfl

variable {l : Loader} (hopen : s.loader.state = .opened) (hl : s.loader.trimmed = l)
include hopen hl

theorem takeLoadSeal_mismatch (h : sum ≠ l.sealSum ∨ count.toNat ≠ l.completed) :
    takeLoadSeal (wordBytes sum ++ halfBytes count) s = s.endLoad l .sumMismatch := by
  rw [takeLoadSeal, if_pos hopen, hl, wordAt_seal, halfAt_seal]
  exact if_pos h

variable (hsum : sum = l.sealSum) (hcount : count.toNat = l.completed)
include hsum hcount

theorem takeLoadSeal_failing {o : LoadOutcome} (h : s.checkLoad l = some o) :
    takeLoadSeal (wordBytes sum ++ halfBytes count) s = s.endLoad l o := by
  rw [takeLoadSeal, if_pos hopen, hl, wordAt_seal, halfAt_seal]
  dsimp only
  rw [if_neg (by simp [hsum, hcount]), h]

theorem takeLoadSeal_deferred (h : s.checkLoad l = none) (hdefer : l.defer = true) :
    takeLoadSeal (wordBytes sum ++ halfBytes count) s =
      { s with loader := { l with state := .waitingEpoch } }.offer (.loadReply l.held .deferred l.completed) := by
  rw [takeLoadSeal, if_pos hopen, hl, wordAt_seal, halfAt_seal]
  dsimp only
  rw [if_neg (by simp [hsum, hcount]), h]
  exact if_pos hdefer

theorem takeLoadSeal_commits (h : s.checkLoad l = none) (hdefer : l.defer = false) :
    takeLoadSeal (wordBytes sum ++ halfBytes count) s = (s.commitRows l).endLoad l l.committed := by
  rw [takeLoadSeal, if_pos hopen, hl, wordAt_seal, halfAt_seal]
  dsimp only
  rw [if_neg (by simp [hsum, hcount]), h]
  exact if_neg (by simp [hdefer])

end

/-- Settles O15: the sum and the count, then the commit checks, then the defer flag. -/
theorem loadSealCommitsOrFails : Obligations.LoadSealCommitsOrFails := by
  intro code sum count s hl
  rw [exec_loadSeal hl]
  refine ⟨fun hclosed => ?_, fun hopen l hload reply hreply empty hempty => ?_⟩
  · rw [takeLoadSeal_notOpen (by rwa [heard_loader]), loadReply_heard, heldReply]
  · have htrim : s.heard.loader.trimmed = l := by rw [heard_loader, trimmed_eq, hload]
    have hbuffer : l.buffer = [] := by rw [hload]
    have hend : ∀ (t : State) (o : LoadOutcome), t.endLoad l o = { t with loader := empty }.offer (reply o) :=
      fun t o => by rw [endLoad_of_empty hbuffer, hempty, hreply]
    have hopen' : s.heard.loader.state = .opened := by rwa [heard_loader]
    refine ⟨fun hbad => ?_, fun hsum hcount =>
      ⟨fun o ho => ?_, fun hnone hdefer => ?_, fun hnone hnow => ?_⟩⟩
    · rw [takeLoadSeal_mismatch hopen' htrim hbad, hend]
    · rw [takeLoadSeal_failing hopen' htrim hsum hcount ho, hend]
    · rw [takeLoadSeal_deferred hopen' htrim hsum hcount hnone hdefer, hreply]
    · rw [takeLoadSeal_commits hopen' htrim hsum hcount hnone hnow, hend, Loader.committed]

end Sys2Proof.Machine
end

section
/-! LOAD_ROWS: the body as a list of items, and what each item does to the loader (R152, R153). -/

namespace Sys2Proof.Machine

/-! ## Words and numbers as bytes (10.7) -/

theorem toNat_natByte {n : Nat} (h : n ≤ 255) : (natByte n).toNat = n := by
  rw [natByte, BitVec.toNat_ofNat]
  omega

theorem natByte_toNat_self (b : Byte) : natByte b.toNat = b := by simp [natByte]

theorem wordBytes_joinWord (b3 b2 b1 b0 : Byte) : wordBytes (joinWord b3 b2 b1 b0) = [b3, b2, b1, b0] := by
  obtain ⟨h3, h2, h1, h0⟩ := wordByte_append b3 b2 b1 b0 _ rfl
  change [wordByte (joinWord b3 b2 b1 b0) 3, wordByte (joinWord b3 b2 b1 b0) 2, wordByte (joinWord b3 b2 b1 b0) 1,
    wordByte (joinWord b3 b2 b1 b0) 0] = _
  rw [joinWord, h3, h2, h1, h0]

theorem wordsOf_length : ∀ (n : Nat) (bs : List Byte), (wordsOf n bs).length = n
  | 0, _ => rfl
  | n + 1, bs => congrArg (· + 1) (wordsOf_length n (bs.drop 4))

/-- Words written out are read back. -/
theorem wordsOf_written : ∀ (ws : List Word) (rest : List Byte), wordsOf ws.length (ws.flatMap wordBytes ++ rest) = ws
  | [], _ => rfl
  | w :: ws, rest => by
    have hfirst : wordAt (wordBytes w ++ (ws.flatMap wordBytes ++ rest)) 0 = w := wordAt_of_drop rfl
    have hdrop : (wordBytes w ++ (ws.flatMap wordBytes ++ rest)).drop 4 = ws.flatMap wordBytes ++ rest := rfl
    rw [List.flatMap_cons, List.append_assoc, List.length_cons, wordsOf, hfirst, hdrop, wordsOf_written ws rest]

theorem wordsOf_bytes : ∀ (n : Nat) {bs : List Byte}, 4 * n ≤ bs.length → (wordsOf n bs).flatMap wordBytes = bs.take (4 * n)
  | 0, _, _ => rfl
  | n + 1, b3 :: b2 :: b1 :: b0 :: bs, h => by
    have hword : wordBytes (wordAt (b3 :: b2 :: b1 :: b0 :: bs) 0) = [b3, b2, b1, b0] := wordBytes_joinWord b3 b2 b1 b0
    have hrest : 4 * n ≤ bs.length := by
      simp only [List.length_cons] at h
      omega
    rw [wordsOf, List.flatMap_cons, hword, List.drop_succ_cons, List.drop_succ_cons, List.drop_succ_cons, List.drop_succ_cons,
      List.drop_zero, wordsOf_bytes n hrest, Nat.mul_succ]
    rfl
  | n + 1, [], h => by simp at h
  | n + 1, [_], h => by simp at h; omega
  | n + 1, [_, _], h => by simp at h; omega
  | n + 1, [_, _, _], h => by simp at h; omega

/-- Fields of one length, laid out one behind the other. -/
theorem length_flatMap_const {α : Type} {f : α → List Byte} {k : Nat} (hf : ∀ a, (f a).length = k) (l : List α) :
    (l.flatMap f).length = k * l.length := by
  simp [List.length_flatMap, hf, Nat.mul_comm]

/-! ## Items (9.3, 10.7) -/

/-- An item written out. -/
def itemBytes : RowItem → List Byte
  | .run ws => [1, natByte ws.length] ++ ws.flatMap wordBytes
  | .skip n => [2, natByte n]

/-- An item that its count byte can carry: a run of 1 to 255 words, a skip of 0 to 255 rows. -/
def ItemFits (x : RowItem) : Prop :=
  (∃ ws, x = .run ws ∧ 1 ≤ ws.length ∧ ws.length ≤ 255) ∨ ∃ n, x = .skip n ∧ n ≤ 255

theorem rowItems_run {count : Byte} {more : List Byte} (hpos : count ≠ 0) (hlen : 4 * count.toNat ≤ more.length) (fuel : Nat) :
    rowItems (fuel + 1) (1 :: count :: more) =
      (rowItems fuel (more.drop (4 * count.toNat))).map (RowItem.run (wordsOf count.toNat more) :: ·) := by
  rw [rowItems, if_pos rfl, if_neg fun h => h.elim hpos (Nat.not_lt.2 hlen)]

theorem rowItems_skip (count : Byte) (more : List Byte) (fuel : Nat) :
    rowItems (fuel + 1) (2 :: count :: more) = (rowItems fuel more).map (RowItem.skip count.toNat :: ·) := by
  rw [rowItems, if_neg (by decide), if_pos rfl]

/-- Fitting items written out are read back, with fuel for each of them. -/
theorem rowItems_written : ∀ {items : List RowItem}, (∀ x ∈ items, ItemFits x) → ∀ {fuel : Nat}, items.length ≤ fuel →
    rowItems fuel (items.flatMap itemBytes) = some items
  | [], _, fuel, _ => by cases fuel <;> rfl
  | x :: items, hfit, fuel + 1, hlen => by
    obtain ⟨hx, hrest⟩ := List.forall_mem_cons.1 hfit
    have ih := rowItems_written hrest (Nat.le_of_succ_le_succ hlen)
    rw [List.flatMap_cons]
    rcases hx with ⟨ws, rfl, hpos, hmax⟩ | ⟨n, rfl, hmax⟩
    · have hcount : (natByte ws.length).toNat = ws.length := toNat_natByte hmax
      have hne : natByte ws.length ≠ 0 := fun h => by simp [h] at hcount; omega
      have hbytes := length_flatMap_const wordBytes_length ws
      change rowItems (fuel + 1) (1 :: natByte ws.length :: (ws.flatMap wordBytes ++ items.flatMap itemBytes)) = _
      rw [rowItems_run hne (by rw [hcount, List.length_append]; omega), hcount, wordsOf_written, ← hbytes, List.drop_left, ih]
      rfl
    · change rowItems (fuel + 1) (2 :: natByte n :: items.flatMap itemBytes) = _
      rw [rowItems_skip, toNat_natByte hmax, ih]
      rfl

/-- Whatever is read as items is these items written out. -/
theorem rowItems_sound : ∀ {fuel : Nat} {body : List Byte} {items : List RowItem}, rowItems fuel body = some items →
    (∀ x ∈ items, ItemFits x) ∧ body = items.flatMap itemBytes
  | fuel, [], items, h => by
    have hnil : items = [] := by cases fuel <;> exact (Option.some.inj h).symm
    subst hnil
    exact ⟨fun x hx => absurd hx List.not_mem_nil, rfl⟩
  | fuel + 1, [kind], items, h => by cases h
  | fuel + 1, kind :: count :: more, items, h => by
    rw [rowItems] at h
    split at h
    · next hkind =>
      split at h
      · cases h
      · next hgood =>
        obtain ⟨hpos, hlen⟩ := not_or.1 hgood
        obtain ⟨rest, hrest, rfl⟩ := Option.map_eq_some_iff.1 h
        obtain ⟨hfit, hbytes⟩ := rowItems_sound hrest
        have hcount : 1 ≤ count.toNat := Nat.pos_of_ne_zero fun h0 => hpos (BitVec.eq_of_toNat_eq h0)
        refine ⟨List.forall_mem_cons.2 ⟨.inl ⟨_, rfl, ?_⟩, hfit⟩, ?_⟩
        · rw [wordsOf_length]
          exact ⟨hcount, Nat.le_of_lt_succ count.isLt⟩
        · rw [List.flatMap_cons, ← hbytes, itemBytes, wordsOf_length, natByte_toNat_self, wordsOf_bytes _ (Nat.le_of_not_lt hlen),
            hkind, List.append_assoc, List.take_append_drop]
          rfl
    · split at h
      · next hkind =>
        obtain ⟨rest, hrest, rfl⟩ := Option.map_eq_some_iff.1 h
        obtain ⟨hfit, hbytes⟩ := rowItems_sound hrest
        refine ⟨List.forall_mem_cons.2 ⟨.inr ⟨_, rfl, Nat.le_of_lt_succ count.isLt⟩, hfit⟩, ?_⟩
        rw [List.flatMap_cons, ← hbytes, itemBytes, natByte_toNat_self, hkind]
        rfl
      · cases h

theorem length_le_flatMap_itemBytes : ∀ items : List RowItem, items.length ≤ (items.flatMap itemBytes).length
  | [] => Nat.le_refl 0
  | x :: items => by
    have hx : 1 ≤ (itemBytes x).length := by
      cases x <;> simp [itemBytes]
    have ih := length_le_flatMap_itemBytes items
    rw [List.flatMap_cons, List.length_append, List.length_cons]
    omega

/-- A body is read as those items exactly when it is those items written out. -/
theorem rowItems_eq_some_iff {body : List Byte} {items : List RowItem} : rowItems body.length body = some items ↔
    (∀ x ∈ items, ItemFits x) ∧ body = items.flatMap itemBytes := by
  refine ⟨rowItems_sound, ?_⟩
  rintro ⟨hfit, rfl⟩
  exact rowItems_written hfit (length_le_flatMap_itemBytes items)

/-! ## One item at the loader (R152, R153) -/

section
variable {l : Loader} {t : TableId} {first last : Nat} {w : Word}

/-- The next row of the window, from the last to the first. -/
theorem advance_one (hw : l.window = some (first, last)) (hlow : first ≤ l.rowCounter) (hhigh : l.rowCounter ≤ last) :
    l.advance 1 = if l.rowCounter = last then first else l.rowCounter + 1 := by
  simp only [Loader.advance, hw]
  split
  · next hlast =>
    rw [hlast, Nat.mod_self]
    rfl
  · rw [Nat.mod_eq_of_lt (by omega)]
    omega

theorem takeWord_partial (ht : l.table = some t) (h : l.buffer.length + 1 < wordsPerRow t) :
    l.takeWord w = { l with sealSum := addEndAround l.sealSum w, buffer := l.buffer ++ [w] } := by
  unfold Loader.takeWord
  exact if_neg (by simpa [ht] using h)

theorem takeWord_row (ht : l.table = some t) (h : wordsPerRow t ≤ l.buffer.length + 1) :
    l.takeWord w = { l with sealSum := addEndAround l.sealSum w, buffer := [],
                            staging := stageRow l.rowCounter (l.buffer ++ [w]) l.staging,
                            completed := min 65535 (l.completed + 1), rowCounter := l.advance 1 } := by
  unfold Loader.takeWord
  exact if_pos (by simpa [ht] using h)

/-- A skip of rows ends a partial row. -/
theorem takeSkip_pos {n : Nat} (h : 0 < n) : l.takeSkip n =
    { l with rowCounter := l.advance n, buffer := [], short := if l.buffer = [] then l.short else true } := by
  unfold Loader.takeSkip
  split
  · next hwords =>
    have hne : l.buffer ≠ [] := fun hnil => by simp [hnil] at hwords
    rw [if_neg hne]
  · next hnone =>
    have hnil : l.buffer = [] := by
      by_contra hne
      exact hnone ⟨by simpa using hne, .inl (Nat.ne_of_gt h)⟩
    rw [if_pos hnil, ← hnil]

end

/-- A row staged is found at its number, in place of any staged copy. -/
theorem stagedRow_stageRow (row : Nat) (ws : List Word) (r : Nat) : ∀ st : List (Nat × List Word),
    stagedRow (stageRow row ws st) r = if r = row then some ws else stagedRow st r
  | [] => by
    by_cases h : r = row
    · rw [if_pos h, h]
      exact stagedRow_cons_self row ws []
    · rw [if_neg h]
      exact stagedRow_cons_ne (Ne.symm h) ws []
  | (q, x) :: rest => by
    by_cases h : r = row
    · subst h
      rw [if_pos rfl, stageRow]
      split
      · exact stagedRow_cons_self ..
      · split
        · exact stagedRow_cons_self ..
        · next hne => rw [stagedRow_cons_ne (Ne.symm hne), stagedRow_stageRow r ws r rest, if_pos rfl]
    · rw [if_neg h, stageRow]
      split
      · exact stagedRow_cons_ne (Ne.symm h) ..
      · split
        · next heq => rw [stagedRow_cons_ne (Ne.symm h), stagedRow_cons_ne (heq ▸ Ne.symm h)]
        · by_cases hq : q = r
          · rw [hq, stagedRow_cons_self, stagedRow_cons_self]
          · rw [stagedRow_cons_ne hq, stagedRow_cons_ne hq, stagedRow_stageRow row ws r rest, if_neg h]

/-! ## LOAD_ROWS (R152) -/

section
variable {s : State} {code : Half} {body : List Byte}

theorem exec_loadRows (h : Listening s code) (hb : body.length ≤ 1024) :
    exec (.loadRows code body) s = .next (takeLoadRows body s.heard) :=
  exec_fitting (i := .loadRows code body) rfl h hb rfl (by decide)

theorem takeLoadRows_notOpen (h : s.loader.state ≠ .opened) : takeLoadRows body s = s.loadReply .notOpen 0 := if_neg h

theorem takeLoadRows_badRows (h : s.loader.state = .opened) (hb : rowItems body.length body = none) :
    takeLoadRows body s = s.loadReply .badRows 0 := by
  rw [takeLoadRows, if_pos h, hb]

theorem takeLoadRows_taken (h : s.loader.state = .opened) {items : List RowItem}
    (hb : rowItems body.length body = some items) :
    takeLoadRows body s = { s with loader := items.foldl Loader.takeItem s.loader } := by
  rw [takeLoadRows, if_pos h, hb]

end

/-- Settles O14: the body read back from its items; each word, each skip and each staged row at the loader. -/
theorem loadRowsStageWholeRows : Obligations.LoadRowsStageWholeRows := by
  refine ⟨fun written hw code body s hl hb => ?_, fun _ _ _ => rfl, fun l t first last w ht hwin hlow hhigh =>
    ⟨fun h => takeWord_partial ht h, fun h => ?_⟩, fun l first last n hwin _ _ hn => ?_,
    fun row ws st hst => ⟨stageRow_sorted hst, fun r => stagedRow_stageRow row ws r st⟩⟩
  · have hitems : ∀ items, written items body ↔ rowItems body.length body = some items :=
      fun items => (hw items body).trans rowItems_eq_some_iff.symm
    rw [exec_loadRows hl hb]
    refine ⟨fun hclosed => ?_, fun hopen hnone => ?_, fun items hopen hitem => ?_⟩
    · rw [takeLoadRows_notOpen (by rwa [heard_loader]), loadReply_heard, heldReply]
    · have hbad : rowItems body.length body = none :=
        Option.eq_none_iff_forall_ne_some.2 fun items h => hnone items ((hitems items).2 h)
      rw [takeLoadRows_badRows (by rwa [heard_loader]) hbad, loadReply_heard, heldReply]
    · rw [takeLoadRows_taken (by rwa [heard_loader]) ((hitems items).1 hitem), heard_loader]
  · rw [← advance_one hwin hlow hhigh]
    exact takeWord_row ht h
  · have hadvance : l.advance n = first + (l.rowCounter - first + n) % (last - first + 1) := by rw [Loader.advance, hwin]
    rw [← hadvance]
    exact takeSkip_pos hn

end Sys2Proof.Machine
end

section
/-! The commit checks, each by what it asks of the rows as they would stand (R42, R157, R158). -/

namespace Sys2Proof.Machine

variable {s : State} {l : Loader} {descs : Vector DockDesc 48} {p : Params}

/-! ## The rows as they would stand -/

theorem newParams_of_dock (h : l.table = some .dock) : s.newParams l = s.params := if_neg (by simp [h])

theorem newDescs_of_param (h : l.table = some .param) : s.newDescs l = s.descs := if_neg (by simp [h])

theorem newDescs_get (h : l.table = some .dock) (d : DockNo) : (s.newDescs l).get d =
    match stagedRow l.staging d.val with | some ws => readDockRow ws | none => s.desc d := by
  rw [State.newDescs, if_pos h]
  exact overlayDescs_get s l.staging d

theorem newParams_of_param (h : l.table = some .param) : s.newParams l = (s.commitRows l).params := by
  rw [commitRows_params h, State.newParams, if_pos h]

/-! ## Each check -/

theorem wellPlaced_iff (r : StringRange) :
    r.wellPlaced = true ↔ r.first = 255 ∨ (r.first.toNat ≤ r.last.toNat ∧ r.last.toNat ≤ 47) := by
  simp [StringRange.wellPlaced]

/-- RANGE passes: each range in use in order and within the docks, and the first before the second (R158 check 1). -/
theorem rangesGood_iff (p : Params) : rangesGood p = true ↔
    (p.rangeA.first = 255 ∨ (p.rangeA.first.toNat ≤ p.rangeA.last.toNat ∧ p.rangeA.last.toNat ≤ 47)) ∧
    (p.rangeB.first = 255 ∨ (p.rangeB.first.toNat ≤ p.rangeB.last.toNat ∧ p.rangeB.last.toNat ≤ 47)) ∧
    (p.rangeA.first = 255 ∨ p.rangeB.first = 255 ∨ p.rangeA.last.toNat < p.rangeB.first.toNat) := by
  rw [← wellPlaced_iff, ← wellPlaced_iff]
  simp [rangesGood, and_assoc, or_assoc]

/-- ALIAS_CLASH passes: two polled docks of one string differ in address (R158 check 2). -/
theorem aliasesDistinct_iff : aliasesDistinct descs p = true ↔
    ∀ d e : DockNo, d ≠ e → polledOn (descs.get d) p d = true → polledOn (descs.get e) p e = true →
      stringOf p d = stringOf p e → (descs.get d).aliasNo ≠ (descs.get e).aliasNo := by
  have hdocks : (allDocks.filter fun d => polledOn (descs.get d) p d).Nodup := (List.nodup_finRange 48).filter _
  have hmem : ∀ d, d ∈ (allDocks.filter fun d => polledOn (descs.get d) p d) ↔ polledOn (descs.get d) p d = true :=
    fun d => by simp [allDocks]
  rw [aliasesDistinct, decide_eq_true_iff, addresses, List.nodup_map_iff_inj_on hdocks]
  simp only [hmem, Prod.mk.injEq]
  refine ⟨fun h d e hne hd he hstring halias => hne (h d hd e he ⟨hstring, halias⟩), fun h d hd e he => ?_⟩
  rintro ⟨hstring, halias⟩
  by_contra hne
  exact h d e hne hd he hstring halias

/-- DOCK_IN_USE passes: every dock that a record names keeps its kind, its address and its string (R158 check 3). -/
theorem namedKept_iff : s.namedKept descs p = true ↔
    ∀ r ∈ s.records, (descs.get r.dock).kind = (s.desc r.dock).kind ∧
      (descs.get r.dock).aliasNo = (s.desc r.dock).aliasNo ∧ stringOf p r.dock = stringOf s.params r.dock := by
  simp [State.namedKept, anchor, State.desc]

/-! ## The first check that fails -/

theorem checkLoad_unchecked (h : l.table = some .cls ∨ l.table = some .key) : s.checkLoad l = none := by
  rcases h with h | h <;> rw [State.checkLoad, h]

/-- The checks of a DOCK or PARAM load, in their order. -/
theorem checkLoad_checked (h : l.table = some .dock ∨ l.table = some .param) : s.checkLoad l =
    if ¬(l.table = some .param → rangesGood (s.newParams l) = true) then some .range
    else if ¬aliasesDistinct (s.newDescs l) (s.newParams l) = true then some .aliasClash
    else if ¬s.namedKept (s.newDescs l) (s.newParams l) = true then some .dockInUse
    else none := by
  rcases h with h | h
  · simp [State.checkLoad, h, newParams_of_dock h]
  · simp [State.checkLoad, h, newDescs_of_param h]

/-- Settles O16: each check by what it asks, the three in their order. -/
theorem commitChecksPassExactlyWhen : Obligations.CommitChecksPassExactlyWhen := by
  refine ⟨rangesGood_iff, fun s l => ⟨checkLoad_unchecked, fun h => ⟨newParams_of_dock h, newDescs_get h⟩,
    fun h => ⟨newDescs_of_param h, newParams_of_param h⟩, ?_⟩⟩
  intro descs p hdescs hp ht ranges aliases named hranges haliases hnamed
  subst hdescs hp
  rw [← aliasesDistinct_iff] at haliases
  rw [← namedKept_iff] at hnamed
  rw [checkLoad_checked ht, hranges, haliases, hnamed]
  refine ⟨fun h1 => if_pos h1, fun h1 h2 => ?_, fun h1 h2 h3 => ?_, fun h1 h2 h3 => ?_⟩
  · rw [if_neg (not_not.2 h1), if_pos h2]
  · rw [if_neg (not_not.2 h1), if_neg (not_not.2 h2), if_pos h3]
  · rw [if_neg (not_not.2 h1), if_neg (not_not.2 h2), if_neg (not_not.2 h3)]

end Sys2Proof.Machine
end

section
/-! RIDER_BATCH and BLOCK_BATCH: the body as whole records, the slot it enters, the slot after a record (R162, R163). -/

namespace Sys2Proof.Machine

variable {s : State} {body : List Byte} {kind : BatchKind} {b : Batch} {r : BatchRecord}

/-! ## The records of a body (10.7) -/

theorem recordOf_take (bs : List Byte) : recordOf (bs.take 8) = recordOf bs := by
  have hbyte : ∀ i < 8, byteAt (bs.take 8) i = byteAt bs i := fun i hi => by
    simp [byteAt, List.getD_eq_getElem?_getD, List.getElem?_take_of_lt hi]
  have hkey : wordAt (bs.take 8) 1 = wordAt bs 1 := by
    rw [wordAt, hbyte _ (by decide), hbyte _ (by decide), hbyte _ (by decide), hbyte _ (by decide), wordAt]
  rw [recordOf, hkey, hbyte _ (by decide), hbyte _ (by decide), hbyte _ (by decide), hbyte _ (by decide), recordOf]

/-- The records lie one behind the other, eight bytes each. -/
theorem recordsOf_getElem? : ∀ {n : Nat} {bs : List Byte} {j : Nat}, (recordsOf n bs)[j]? = some r →
    r = recordOf (bs.drop (8 * j))
  | 0, _, _, h => by cases h
  | n + 1, bs, 0, h => (Option.some.inj h).symm.trans (recordOf_take bs)
  | n + 1, bs, j + 1, h => by
    have hrest := recordsOf_getElem? (n := n) (bs := bs.drop 8) (j := j) h
    rwa [List.drop_drop, Nat.add_comm, ← Nat.mul_succ] at hrest

/-- A record by its bytes in the body, after the head of three. -/
theorem recordOf_drop (body : List Byte) (j : Nat) : recordOf ((body.drop 3).drop (8 * j)) =
    { kind := byteAt body (3 + 8 * j), key := wordAt body (4 + 8 * j), b5 := byteAt body (8 + 8 * j),
      b6 := byteAt body (9 + 8 * j), b7 := byteAt body (10 + 8 * j) } := by
  have hbyte : ∀ i k, 3 + 8 * j + i = k → byteAt ((body.drop 3).drop (8 * j)) i = byteAt body k := fun i k h => by
    rw [List.drop_drop, ← byteAt_add, h]
  have hkey : wordAt ((body.drop 3).drop (8 * j)) 1 = wordAt body (4 + 8 * j) := by
    rw [wordAt, hbyte 1 (4 + 8 * j) (by omega), hbyte 2 (4 + 8 * j + 1) (by omega), hbyte 3 (4 + 8 * j + 2) (by omega),
      hbyte 4 (4 + 8 * j + 3) (by omega), wordAt]
  rw [recordOf, hkey, hbyte 0 (3 + 8 * j) (by omega), hbyte 5 (8 + 8 * j) (by omega), hbyte 6 (9 + 8 * j) (by omega),
    hbyte 7 (10 + 8 * j) (by omega)]

theorem batchRecords_bad
    (h : body.length < 3 ∨ 32 < (byteAt body 2).toNat ∨ body.length ≠ 3 + 8 * (byteAt body 2).toNat) :
    batchRecords body = none := by
  unfold batchRecords
  split
  · rfl
  · exact if_neg (by omega)

theorem batchRecords_whole (hmax : (byteAt body 2).toNat ≤ 32) (hlen : body.length = 3 + 8 * (byteAt body 2).toNat) :
    batchRecords body = some (recordsOf (byteAt body 2).toNat (body.drop 3)) := by
  unfold batchRecords
  rw [if_neg (by omega)]
  exact if_pos ⟨hmax, hlen⟩

/-! ## Taking a batch (R162) -/

theorem exec_batch {code : Half} {i : Instr}
    (h : (kind = .rider ∧ i = .riderBatch code body) ∨ (kind = .block ∧ i = .blockBatch code body))
    (hl : Listening s code) (hb : body.length ≤ 1024) : exec i s = .next (takeBatch kind body s.heard) := by
  rcases h with ⟨rfl, rfl⟩ | ⟨rfl, rfl⟩
  · exact exec_fitting (i := .riderBatch code body) rfl hl hb rfl (by decide)
  · exact exec_fitting (i := .blockBatch code body) rfl hl hb rfl (by decide)

theorem takeBatch_busy (h : s.batch ≠ none) :
    takeBatch kind body s = s.offer (.batchReply kind (batchNumber body) 0 .batchBusy 0) :=
  if_pos (Option.isSome_iff_ne_none.2 h)

theorem takeBatch_bad (h : s.batch = none) (hb : batchRecords body = none) :
    takeBatch kind body s = s.offer (.batchReply kind (batchNumber body) 0 .badBatch 0) := by
  rw [takeBatch, if_neg (by simp [h]), hb]

theorem takeBatch_empty (h : s.batch = none) (hb : batchRecords body = some []) :
    takeBatch kind body s = s.offer (.batchReply kind (batchNumber body) 0 .none 0) := by
  rw [takeBatch, if_neg (by simp [h]), hb]

theorem takeBatch_enters (h : s.batch = none) {rs : List BatchRecord} (hb : batchRecords body = some rs) (hne : rs ≠ []) :
    takeBatch kind body s =
      { s with batch := some { kind := kind, number := batchNumber body, records := rs, next := 0, applied := 0 } } := by
  rw [takeBatch, if_neg (by simp [h]), hb]
  cases rs with
  | nil => exact absurd rfl hne
  | cons r rs => rfl

/-! ## The slot after a record (R162, R163) -/

theorem advanceBatch_next (h : b.next + 1 < b.records.length) :
    s.advanceBatch b = { s with batch := some { b with next := b.next + 1, applied := b.applied + 1 } } := if_pos h

theorem advanceBatch_last (h : b.records.length ≤ b.next + 1) : s.advanceBatch b = batchEnds s b (b.applied + 1) .none 0 :=
  if_neg (Nat.not_lt.2 h)

/-- The kind code of each kind of record (10.7). -/
def RecordKind.code : RecordKind → Byte
  | .put => 1 | .drop => 2 | .add => 3 | .remove => 4

theorem recordKindOf_eq_some_iff {c : Byte} {k : RecordKind} : recordKindOf c = some k ↔ c = k.code := by
  revert c
  cases k <;> decide

/-- A record of a code of no kind is applied by any of the four commands (log entry 26). -/
theorem takeRecord_unknown (h : NextRecord s b r) (hk : recordKindOf r.kind = none) (k : RecordKind) :
    whenRunning s (takeRecord k) = .next (s.applyNext b r) := by
  obtain ⟨hlow, hb, hr⟩ := h
  simp [whenRunning, hlow, takeRecord, hb, hr, takesRecord, hk]

/-- The command that takes a record applies it. -/
theorem exec_takesRecord {i : Instr} (h : NextRecord s b r) (hi : TakesRecord i r.kind) :
    exec i s = .next (s.applyNext b r) := by
  rcases hi with ⟨rfl, hr⟩ | ⟨rfl, hr⟩ | ⟨rfl, hr⟩ | ⟨rfl, hr⟩ | ⟨hi, h1, h2, h3, h4⟩
  · exact takeRecord_eq h (recordKindOf_put hr)
  · exact takeRecord_eq h (recordKindOf_drop hr)
  · exact takeRecord_eq h (recordKindOf_add hr)
  · exact takeRecord_eq h (recordKindOf_remove hr)
  · have hnone : recordKindOf r.kind = none := Option.eq_none_iff_forall_ne_some.2 fun k hk => by
      rw [recordKindOf_eq_some_iff] at hk
      cases k
      · exact h1 hk
      · exact h2 hk
      · exact h3 hk
      · exact h4 hk
    rcases hi with rfl | rfl | rfl | rfl
    · exact takeRecord_unknown h hnone .put
    · exact takeRecord_unknown h hnone .drop
    · exact takeRecord_unknown h hnone .add
    · exact takeRecord_unknown h hnone .remove

theorem applyRecord_badKey (h : r.key = 0) : s.applyRecord kind r = .error .badKey := if_pos h

/-- A record whose kind does not belong to the batch is applied by neither structure (9.5). -/
theorem applyRecord_badRecord (h : r.key ≠ 0) (hb : ¬Belongs kind r.kind) : s.applyRecord kind r = .error .badRecord := by
  unfold State.applyRecord
  rw [if_neg h]
  split
  · next hk => exact absurd (.inl ⟨rfl, .inl (recordKindOf_eq_some_iff.1 hk)⟩) hb
  · next hk => exact absurd (.inl ⟨rfl, .inr (recordKindOf_eq_some_iff.1 hk)⟩) hb
  · next hk => exact absurd (.inr ⟨rfl, .inl (recordKindOf_eq_some_iff.1 hk)⟩) hb
  · next hk => exact absurd (.inr ⟨rfl, .inr (recordKindOf_eq_some_iff.1 hk)⟩) hb
  · rfl

/-- Settles O20: a batch frame by the slot and the body, the slot by the records left, a record by its key and its kind. -/
theorem batchEntersTheSlot : Obligations.BatchEntersTheSlot := by
  refine ⟨fun code body s hl hb kind i hi n hn => ?_, fun s b => ⟨advanceBatch_next, advanceBatch_last⟩,
    fun i s b r hr hi => ?_⟩
  · have hn : n = batchNumber body := hn
    subst hn
    rw [exec_batch hi hl hb, ← heard_batch s]
    refine ⟨fun hbusy => by rw [takeBatch_busy hbusy], fun hfree =>
      ⟨fun hbad => ?_, fun hlen hzero => ?_, fun hlen hmax hwhole => ?_⟩⟩
    · rw [takeBatch_bad hfree (batchRecords_bad hbad)]
    · have hempty : batchRecords body = some [] := by
        rw [batchRecords_whole (by simp [hzero]) (by simp [hzero, hlen]), hzero]
        rfl
      rw [takeBatch_empty hfree hempty]
    · have hcount := recordsOf_length (byteAt body 2).toNat (body.drop 3)
      have hne : recordsOf (byteAt body 2).toNat (body.drop 3) ≠ [] := fun h => by
        rw [h, List.length_nil] at hcount
        omega
      refine ⟨_, hcount, fun j r hr => ?_, congrArg _ (takeBatch_enters hfree (batchRecords_whole hmax hwhole) hne)⟩
      rw [recordsOf_getElem? hr, recordOf_drop]
  · rw [exec_takesRecord hr hi]
    refine ⟨fun hzero => ?_, fun hkey hforeign => ?_⟩
    · rw [applyNext_error (applyRecord_badKey hzero), hzero]
    · rw [applyNext_error (applyRecord_badRecord hkey hforeign)]

end Sys2Proof.Machine
end

section
/-! QUERY: the seven indexed targets, the rider, the counters and their clear, an unknown target (R164 to R166). -/

namespace Sys2Proof.Machine

variable {s : State} {code : Half} {body : List Byte}

/-! ## A QUERY received (R173) -/

/-- Whichever command carries it, a QUERY is taken by its body, after its acceptance. -/
theorem exec_query {i : Instr} (h : frameOf i = some (.query, code, body)) (hl : Listening s code) (hb : body.length = 5) :
    exec i s = .next (takeQuery body s.heard) := by
  have hfit : fits .query body = true := by simp [fits, fixedLength, hb]
  exact exec_fitting h hl (by omega) hfit (by decide)

/-! ## Indexed targets (R165) -/

/-- An indexed target with the number of its items that fit a reply and the items it holds (R164, R165). -/
def IndexedTarget (s : State) (target : Byte) (fit : Nat) (items : List (List Byte)) : Prop :=
  (target = 1 ∧ fit = 31 ∧ items = s.dockRowItems) ∨ (target = 2 ∧ fit = 4 ∧ items = s.classRowItems) ∨
  (target = 3 ∧ fit = 6 ∧ items = s.paramRowItems) ∨ (target = 4 ∧ fit = 4 ∧ items = s.keyRowItems) ∨
  (target = 6 ∧ fit = 41 ∧ items = s.blockItems) ∨ (target = 7 ∧ fit = 10 ∧ items = s.recordItems) ∨
  (target = 8 ∧ fit = 12 ∧ items = s.contextItems)

theorem heard_dockRowItems (s : State) : s.heard.dockRowItems = s.dockRowItems :=
  heard_keeps State.dockRowItems (fun _ _ _ _ _ _ _ _ => rfl) s
theorem heard_classRowItems (s : State) : s.heard.classRowItems = s.classRowItems :=
  heard_keeps State.classRowItems (fun _ _ _ _ _ _ _ _ => rfl) s
theorem heard_paramRowItems (s : State) : s.heard.paramRowItems = s.paramRowItems :=
  heard_keeps State.paramRowItems (fun _ _ _ _ _ _ _ _ => rfl) s
theorem heard_keyRowItems (s : State) : s.heard.keyRowItems = s.keyRowItems :=
  heard_keeps State.keyRowItems (fun _ _ _ _ _ _ _ _ => rfl) s
theorem heard_blockItems (s : State) : s.heard.blockItems = s.blockItems :=
  heard_keeps State.blockItems (fun _ _ _ _ _ _ _ _ => rfl) s
theorem heard_recordItems (s : State) : s.heard.recordItems = s.recordItems :=
  heard_keeps State.recordItems (fun _ _ _ _ _ _ _ _ => rfl) s

/-- A QUERY of an indexed target is answered from its items. -/
theorem takeQuery_indexed {target : Byte} {fit : Nat} {items : List (List Byte)} (hbody : byteAt body 0 = target)
    (h : IndexedTarget s target fit items) :
    takeQuery body s = s.offer (indexedReply target items fit (queryFirst body) (queryCount body)) := by
  unfold takeQuery
  rcases h with ⟨rfl, rfl, rfl⟩ | ⟨rfl, rfl, rfl⟩ | ⟨rfl, rfl, rfl⟩ | ⟨rfl, rfl, rfl⟩ | ⟨rfl, rfl, rfl⟩ | ⟨rfl, rfl, rfl⟩ |
    ⟨rfl, rfl, rfl⟩ <;> rw [hbody] <;> rfl

/-- Settles O36: the target's items at the state that the acceptance leaves, and the first index and count of the body. -/
theorem indexedQueries : Obligations.IndexedQueries := by
  intro i code first target n flags items fit s hi hl htarget wanted hwanted
  have hfirst : queryFirst ([target] ++ halfBytes first ++ [n, flags]) = first := halfAt_of_drop (rest := [n, flags]) rfl
  have hitems : IndexedTarget s.heard target fit items := by
    rw [IndexedTarget, heard_dockRowItems, heard_classRowItems, heard_paramRowItems, heard_keyRowItems, heard_blockItems,
      heard_recordItems]
    exact htarget
  have hreply := takeQuery_indexed (body := [target] ++ halfBytes first ++ [n, flags]) rfl hitems
  rw [exec_query hi hl rfl, hreply, hfirst, hwanted]
  rfl

/-! ## The rider, the counters, an unknown target (R164, R166) -/

theorem takeQuery_rider (k : Key) (s : State) : takeQuery ([5] ++ wordBytes k) s = s.offer (s.riderReply k) := by
  have hkey : wordAt ([5] ++ wordBytes k) 1 = k := wordAt_of_drop (rest := []) rfl
  change s.offer (s.riderReply (wordAt ([5] ++ wordBytes k) 1)) = _
  rw [hkey]

theorem takeQuery_counters (a b c flags : Byte) (s : State) :
    takeQuery [9, a, b, c, flags] s = takeCounters (flags.getLsbD 0) s := rfl

theorem takeQuery_unknown (h : (byteAt body 0).toNat = 0 ∨ 9 < (byteAt body 0).toNat) :
    takeQuery body s = s.offer (badQuery (byteAt body 0)) := by
  unfold takeQuery
  split
  case h_10 => rfl
  all_goals omega

theorem takeCounters_kept {clear : Bool} (h : clear = false ∨ 64 ≤ s.uplink.length) :
    takeCounters clear s = s.offer s.counterReply := by
  refine if_neg ?_
  rintro ⟨hclear, hroom⟩
  rcases h with h | h
  · rw [hclear] at h
    cases h
  · exact absurd (of_decide_eq_true hroom) (Nat.not_lt.2 h)

/-- The counter clear, once its reply has joined the queue (R166). -/
theorem takeCounters_cleared (h : s.uplink.length < 64) :
    takeCounters true s = { s with uplink := s.uplink ++ [s.counterReply] }.clearCounts := by
  have hoffer : s.offer s.counterReply = { s with uplink := s.uplink ++ [s.counterReply] } := if_pos h
  rw [takeCounters, if_pos ⟨rfl, decide_eq_true h⟩, hoffer]

theorem clearCounts_ctx (s : State) (d : DockNo) : s.clearCounts.ctx d = (s.ctx d).clearCounts := ctx_mapCtxs _ _ d

/-- Settles O37: the target by its byte; the clear by its flag and the room in the queue. -/
theorem riderAndCounterQueries : Obligations.RiderAndCounterQueries := by
  intro i code k a b c flags target s hl
  refine ⟨fun hi => ?_, fun hi reply hreply => ?_, fun hi htarget => ?_⟩
  · rw [exec_query hi hl rfl, takeQuery_rider, State.riderReply, heard_lookup]
  · have hcounter : s.heard.counterReply = reply := hreply.symm
    rw [exec_query hi hl rfl, takeQuery_counters]
    refine ⟨fun hkept => by rw [takeCounters_kept hkept, hcounter], fun hclear hroom => ?_⟩
    rw [hclear, takeCounters_cleared hroom, hcounter]
    exact ⟨_, rfl, rfl, fun d => clearCounts_ctx _ d⟩
  · have hunknown : (byteAt [target, a, b, c, flags] 0).toNat = 0 ∨ 9 < (byteAt [target, a, b, c, flags] 0).toNat :=
      htarget.imp_left (congrArg BitVec.toNat)
    rw [exec_query hi hl rfl, takeQuery_unknown hunknown]
    rfl

end Sys2Proof.Machine
end

section
/-! Items of QUERY replies: every field read back at its offset, DOCK and CLASS rows read back as rows (R157, R164, R166, 10.7). -/

namespace Sys2Proof.Machine

/-! ## Fields at an offset -/

theorem byteAt_of_drop {b rest : List Byte} {i : Nat} {x : Byte} (hd : b.drop i = x :: rest) : byteAt b i = x := by
  have h0 : byteAt b i = byteAt (b.drop i) 0 := byteAt_add b i 0
  rw [h0, hd]
  rfl

theorem drop_of_drop {b c : List Byte} {i j k : Nat} (hd : b.drop i = c) (h : i + j = k) : b.drop k = c.drop j := by
  rw [← h, ← List.drop_drop, hd]

theorem joinHalf_zero : joinHalf 0 0 = 0 := by decide

/-- Of fields of one length, laid out one behind the other, each begins at its multiple of the length. -/
theorem drop_flatMap_const {α : Type} {f : α → List Byte} {k : Nat} (hf : ∀ a, (f a).length = k) :
    ∀ {l : List α} {j : Nat} {a : α}, l[j]? = some a → ∃ rest, (l.flatMap f).drop (k * j) = f a ++ rest
  | x :: l, 0, a, h => ⟨l.flatMap f, by rw [← Option.some.inj h]; rfl⟩
  | x :: l, j + 1, a, h => by
    obtain ⟨rest, hrest⟩ := drop_flatMap_const hf (l := l) (j := j) h
    refine ⟨rest, ?_⟩
    rw [List.flatMap_cons, Nat.mul_succ, Nat.add_comm, ← List.drop_drop, ← hf x, List.drop_left, hf x, hrest]

/-! ## Rows (R157) -/

theorem boolByte_ne_zero (b : Bool) : decide (boolByte b ≠ 0) = b := by cases b <;> rfl

theorem dockDesc_ext {x y : DockDesc} (hkind : x.kind = y.kind) (halias : x.aliasNo = y.aliasNo)
    (hlevel : x.minLevel = y.minLevel) (hlocal : x.localMask = y.localMask) (hislanded : x.islandedMask = y.islandedMask)
    (hmode : x.mode = y.mode) : x = y := by
  cases x
  cases y
  simp_all

theorem mask_of_byte {m sent : BitVec 4} (h : ∀ c : Fin 4, m.getLsbD c.val = (sent.zeroExtend 8).getLsbD c.val) : m = sent :=
  BitVec.eq_of_getLsbD_eq fun i hi => (h ⟨i, hi⟩).trans (by simp; omega)

theorem toNat_maskByte (m : BitVec 4) : (m.zeroExtend 8).toNat = m.toNat := by
  have := m.isLt
  simp
  omega

/-- A live DOCK row, sent as two words, is read back as the same row. -/
theorem readDockRow_item {x : DockDesc} (h : x.aliasNo.toNat ≤ 31) :
    readDockRow [wordAt (dockRowItem x) 0, wordAt (dockRowItem x) 4] = x := by
  obtain ⟨hkind, halias, hlevel, hmasks, hmode⟩ := readDockRow_bytes (byteAt (dockRowItem x) 0) x.aliasNo
    (natByte x.minLevel.val) (byteAt (dockRowItem x) 3) (x.localMask.zeroExtend 8) (x.islandedMask.zeroExtend 8) 0 0
    (readDockRow [wordAt (dockRowItem x) 0, wordAt (dockRowItem x) 4]) rfl
  refine dockDesc_ext (hkind.trans ?_) (halias.trans (if_neg (Nat.not_lt.2 h))) (Fin.ext (hlevel.trans ?_))
    (mask_of_byte fun c => (hmasks c).1) (mask_of_byte fun c => (hmasks c).2) (hmode.trans ?_)
  · unfold dockRowItem
    cases x.kind <;> rfl
  · rw [toNat_natByte (by omega)]
    omega
  · unfold dockRowItem
    cases x.mode <;> rfl

theorem readClassRow_item {x : ClassRow} (h : x.limit ≤ 15) : readClassRow [wordAt (classRowItem x) 0] = x := by
  refine (readClassRow_bytes (natByte x.limit) (boolByte x.ebike) (boolByte x.charge) 0).trans ?_
  rw [toNat_natByte (by omega), Nat.min_eq_right h, boolByte_ne_zero, boolByte_ne_zero]

/-! ## Rider items -/

theorem riderFlags_eq (e : RiderEntry) : riderFlags e =
    natByte (1 + 2 * e.review.toNat + 4 * e.pinned.toNat + 8 * e.provisional.toNat + 16 * e.dropPending.toNat +
      32 * e.top.isSome.toNat) := by
  unfold riderFlags
  generalize e.review = b1, e.pinned = b2, e.provisional = b3, e.dropPending = b4, e.top.isSome = b5
  revert b1 b2 b3 b4 b5
  decide

theorem usedPlaces_length (used : List Half) : (usedPlaces used).length = 32 := by
  rw [usedPlaces, length_flatMap_const halfBytes_length]
  simp

/-- The sixteen places hold the used set from top downward, then 0. -/
theorem usedPlaces_get (used : List Half) {j : Nat} (hj : j < 16) :
    ∃ rest, (usedPlaces used).drop (2 * j) = halfBytes (used.getD j 0) ++ rest := by
  refine drop_flatMap_const halfBytes_length ?_
  rw [List.getElem?_take_of_lt hj, List.getD_eq_getElem?_getD]
  by_cases hlen : j < used.length
  · rw [List.getElem?_append_left hlen, List.getElem?_eq_getElem hlen]
    rfl
  · have hrep : j - used.length < 16 := by omega
    rw [List.getElem?_append_right (Nat.le_of_not_lt hlen), List.getElem?_eq_none (Nat.le_of_not_lt hlen),
      List.getElem?_replicate_of_lt hrep]
    rfl

/-! ## Context items -/

theorem statusFlags_eq (p : Presence) (l : Latch) (id owed rider charged : Bool) :
    presenceCode p ||| (latchCode l <<< 2) ||| flagBit id 4 ||| flagBit owed 5 ||| flagBit rider 6 ||| flagBit charged 7 =
      natByte ((match p with | .unknown => 0 | .absent => 1 | .present => 2) +
        4 * (match l with | .unknown => 0 | .opened => 1 | .closed => 2) + 16 * id.toNat + 32 * owed.toNat +
        64 * rider.toNat + 128 * charged.toNat) := by
  revert id owed rider charged
  cases p <;> cases l <;> decide

/-- Three fields of two bits and two flags, each at its bit. -/
theorem packSlot (order tries light : Fin 4) (named unsent : Bool) :
    natByte order.val ||| (natByte tries.val <<< 2) ||| (natByte light.val <<< 4) ||| flagBit named 6 ||| flagBit unsent 7 =
      natByte (order.val + 4 * tries.val + 16 * light.val + 64 * named.toNat + 128 * unsent.toNat) := by
  revert order tries light named unsent
  decide

theorem slotFlags_eq (o : Option Order) {tries : Nat} (htries : tries ≤ 3) (i : Indicator) (named unsent : Bool) :
    slotCode o ||| (natByte tries <<< 2) ||| (indicatorCode i <<< 4) ||| flagBit named 6 ||| flagBit unsent 7 =
      natByte ((match o with | none => 0 | some .unlatch => 1 | some .relatch => 2) + 4 * tries +
        16 * (match i with | .dark => 0 | .green => 1 | .amber => 2 | .red _ _ => 3) + 64 * named.toNat +
        128 * unsent.toNat) := by
  obtain ⟨light, hcode, hlight⟩ : ∃ light : Fin 4, indicatorCode i = natByte light.val ∧
      (match i with | .dark => 0 | .green => 1 | .amber => 2 | .red _ _ => 3) = light.val := by
    cases i
    · exact ⟨0, rfl, rfl⟩
    · exact ⟨1, rfl, rfl⟩
    · exact ⟨2, rfl, rfl⟩
    · exact ⟨3, rfl, rfl⟩
  have hpack : ∀ order : Fin 4, _ := fun order => packSlot order ⟨tries, by omega⟩ light named unsent
  rw [hcode, hlight]
  cases o with
  | none => exact hpack 0
  | some x =>
    cases x with
    | unlatch => exact hpack 1
    | relatch => exact hpack 2

/-! ## The counter item (R166) -/

theorem toList_eq_map_get {α : Type} {n : Nat} (v : Vector α n) : v.toList = (List.finRange n).map v.get := by
  apply List.ext_getElem
  · simp
  · intro i h1 h2
    simp [Vector.get]

/-- The entries of the Rider Table, bucket by bucket and way by way. -/
theorem riderCount_eq (s : State) : s.riderCount = ((List.finRange 1024).flatMap fun i =>
    (List.finRange 4).filter fun w => ((s.bucket i).get w).isSome).length := by
  rw [State.riderCount, toList_eq_map_get, List.map_map, List.length_flatMap]
  refine congrArg List.sum (List.map_congr_left fun i _ => ?_)
  simp only [Function.comp, toList_eq_map_get (s.riders.get i), List.filter_map, List.length_map]
  rfl

/-- The position byte of a String Master: FFh when it has none. -/
theorem positionByte_eq (p : Option DockNo) : (match p with | some d => natByte d.val | none => 0xFF) =
    (match p with | none => (0xFF : Byte) | some d => natByte d.val) := by cases p <;> rfl

theorem stringItem_fields {b rest : List Byte} {i : Nat} {x : StringMaster} (hd : b.drop i = stringItem x ++ rest) :
    byteAt b i = lineStateCode x.line ∧ byteAt b (i + 1) = natByte x.cycle.val ∧
    byteAt b (i + 2) = (match x.position with | none => 0xFF | some d => natByte d.val) ∧
    byteAt b (i + 3) = natByte x.stuck := by
  refine ⟨byteAt_of_drop hd, byteAt_of_drop (drop_of_drop hd rfl), ?_, byteAt_of_drop (drop_of_drop hd rfl)⟩
  rw [← positionByte_eq]
  exact byteAt_of_drop (drop_of_drop hd rfl)

theorem dockCountItem_length (c : DockContext) : (dockCountItem c).length = 4 := rfl

theorem dockCounts_get (s : State) (d : DockNo) :
    ∃ rest, s.counterItem.drop (37 + 4 * d.val) = dockCountItem (s.ctx d) ++ rest := by
  have hdock : allDocks[d.val]? = some d := by simp [allDocks]
  have hdrop : s.counterItem.drop 37 = allDocks.flatMap fun d => dockCountItem (s.ctx d) := rfl
  rw [← List.drop_drop, hdrop]
  exact drop_flatMap_const (fun d => dockCountItem_length (s.ctx d)) hdock

theorem counterItem_length (s : State) : s.counterItem.length = 229 := by
  have hdocks : (allDocks.flatMap fun d => dockCountItem (s.ctx d)).length = 192 := by
    rw [length_flatMap_const fun d => dockCountItem_length (s.ctx d)]
    simp [allDocks]
  rw [State.counterItem, List.length_append, hdocks]
  rfl

/-- Settles O56: each item is a list of fields, of which every field is read back. -/
theorem queryItems : Obligations.QueryItems := by
  refine ⟨?_, ?_, fun _ => rfl, fun x => congrArg ([·]) (boolByte_eq x.valid), ?_, fun _ => rfl, ?_, ?_, ?_, ?_⟩
  · rintro x b rfl
    refine ⟨rfl, rfl, rfl, rfl, ?_, ?_, ?_, joinHalf_zero, readDockRow_item⟩
    · unfold dockRowItem
      cases x.mode <;> rfl
    · exact toNat_maskByte x.localMask
    · exact toNat_maskByte x.islandedMask
  · rintro x b rfl
    exact ⟨rfl, rfl, boolByte_eq x.ebike, boolByte_eq x.charge, rfl, readClassRow_item⟩
  · rintro x b rfl
    exact ⟨rfl, wordAt_of_drop rfl, halfAt_of_drop (rest := []) rfl⟩
  · rintro k e b rfl
    have hplaces : (riderItem k (some e)).drop 13 = usedPlaces e.used := rfl
    refine ⟨?_, wordAt_of_drop rfl, riderFlags_eq e, rfl, rfl, rfl, halfAt_of_drop rfl, halfAt_of_drop rfl, rfl, fun j hj => ?_⟩
    · rw [riderItem, List.length_append, usedPlaces_length]
      rfl
    · obtain ⟨rest, hrest⟩ := usedPlaces_get e.used hj
      rw [← hplaces, List.drop_drop] at hrest
      exact halfAt_of_drop hrest
  · rintro r b rfl
    refine ⟨?_, halfAt_of_drop rfl, rfl, rfl, releaseFlags_eq _ _ _ _ _ _, wordAt_of_drop rfl, rfl, rfl, rfl, halfAt_of_drop rfl,
      wordAt_of_drop rfl, ?_, ?_⟩
    · unfold recordItem
      cases r.timer <;> rfl
    · unfold recordItem
      cases r.timer with
      | none => exact Prod.ext rfl (halfAt_of_drop rfl)
      | referral n => exact Prod.ext rfl (halfAt_of_drop rfl)
      | lift n => exact Prod.ext rfl (halfAt_of_drop rfl)
    · unfold recordItem
      cases r.timer <;> rfl
  · rintro c b rfl htries
    exact ⟨rfl, rfl, statusFlags_eq .., wordAt_of_drop rfl, slotFlags_eq _ htries .., rfl, rfl, rfl, rfl, rfl, halfAt_of_drop rfl,
      wordAt_of_drop rfl, halfAt_of_drop (rest := []) rfl⟩
  · intro s b hb
    have hlen : b.length = 229 := hb ▸ counterItem_length s
    have hdocks : ∀ d : DockNo, ∃ rest, b.drop (37 + 4 * d.val) = dockCountItem (s.ctx d) ++ rest :=
      fun d => hb ▸ dockCounts_get s d
    simp only [State.counterItem, List.append_assoc] at hb
    subst hb
    refine ⟨hlen, halfAt_of_drop rfl, halfAt_of_drop rfl, rfl, rfl, boolByte_eq _, halfAt_of_drop rfl, rfl,
      halfAt_of_drop rfl, rfl, ?_, halfAt_of_drop rfl, rfl, rfl, rfl, rfl, rfl, rfl, halfAt_of_drop rfl, ?_, ?_, fun d => ?_⟩
    · rw [← riderCount_eq]
      exact halfAt_of_drop rfl
    · cases s.batch with
      | none => exact Prod.ext rfl (Prod.ext (halfAt_of_drop rfl) rfl)
      | some x => exact Prod.ext rfl (Prod.ext (halfAt_of_drop rfl) rfl)
    · rintro m i rfl
      cases m
      · exact stringItem_fields rfl
      · exact stringItem_fields rfl
    · obtain ⟨rest, hrest⟩ := hdocks d
      have hmiss := drop_of_drop hrest (j := 1) (k := 38 + 4 * d.val) (by omega)
      have hunreported := drop_of_drop hrest (j := 2) (k := 39 + 4 * d.val) (by omega)
      exact ⟨byteAt_of_drop hrest, byteAt_of_drop hmiss, halfAt_of_drop hunreported⟩

end Sys2Proof.Machine
end

section
/-! The Station Link Port: frames judged, unfit, oversize or cut off; the transmitter and RESETN; the front of the command queue
(R168 to R172, R175 to R178). -/

namespace Sys2Proof.Machine

variable {s : State} {code : Half} {kind : Byte} {body : List Byte}

/-! ## Bodies that fit (R172) -/

/-- An accepted frame that does not fit goes to no owner. -/
theorem acceptFrame_unfit {k : DownKind} (h : fits k body = false) : s.acceptFrame k body = s.heard.countBad := by
  simp [State.acceptFrame, h]

theorem heard_countBad (s : State) : s.heard.countBad = { s.heard with badFrames := min 65535 (s.badFrames + 1) } := by
  rw [State.countBad, heard_badFrames]

/-- Settles O8: a frame that a command carries reaches `acceptFrame`, where its fit decides. -/
theorem unfitFrameIsOnlyCounted : Obligations.UnfitFrameIsOnlyCounted := by
  refine ⟨fun k body => ?_, fun i k code body s hi hl hb hf => ?_⟩
  · cases k <;> simp [fits, fixedLength]
  · rw [exec_of_frameOf hi, receive_accepted hl k hb, acceptFrame_unfit hf, heard_countBad]

/-! ## A complete frame judged (R170, R171) -/

theorem codeMatches_iff (s : State) (code : Half) : s.codeMatches code = true ↔
    code.extractLsb' 0 12 ≠ (0 : BitVec 12) ∧
      (code.extractLsb' 0 12 = s.stationCode ∨ code.extractLsb' 0 12 = (4095 : BitVec 12)) := by
  simp [State.codeMatches]

/-- A BAD_FRAME from HUNT is judged by its parts. -/
theorem exec_badFrame (hr : s.resetnLow = false) (hd : s.deframer = .initial) (hb : body.length ≤ 1024) (crc : Half) :
    exec (.badFrame code kind body crc) s = .next
      (if crc16 (frameCore code kind body) ≠ crc then s.countBad
       else if s.codeMatches code = false then s.countForeign
       else (downKindOf kind).elim s.countBad fun k => s.acceptFrame k body) := by
  have hrun : exec (.badFrame code kind body crc) s = .next (s.rxChars (frameWith code kind body crc)) :=
    whenRunning_next hr fun s => s.rxChars (frameWith code kind body crc)
  rw [hrun, rxChars_frameWith s hd code kind body crc hb, judgeFrame_frame]
  cases downKindOf kind <;> rfl

/-- A FOREIGN_FRAME is the frame with its right CRC. -/
theorem exec_foreignFrame (code : Half) (kind : Byte) (body : List Byte) (s : State) :
    exec (.foreignFrame code kind body) s = exec (.badFrame code kind body (crc16 (frameCore code kind body))) s := rfl

/-- Settles O9: each clause is one branch of the judgement. -/
theorem completeFrameIsJudged : Obligations.CompleteFrameIsJudged := by
  refine ⟨codeMatches_iff, fun code kind body crc s hr hd hb => ?_⟩
  have hjudged := exec_badFrame (code := code) (kind := kind) hr hd hb
  refine ⟨fun hcrc => ?_, fun hcode => ?_, fun hcode hkind => ?_, fun k hcode hkind => ?_⟩
  · rw [hjudged, if_pos hcrc, State.countBad]
  · rw [exec_foreignFrame, hjudged, if_neg (not_not_intro rfl), if_pos hcode, State.countForeign]
  · simp [hjudged, hcode, hkind, State.countBad]
  · have haccepted : exec (.badFrame code kind body (crc16 (frameCore code kind body))) s = receive k code body s := by
      rw [receive_accepted ⟨hr, hd, hcode⟩ k hb]
      simp [hjudged, hcode, hkind]
    exact ⟨haccepted, haccepted⟩

/-! ## A frame in assembly (R168) -/

theorem rxChars_append (s : State) (as bs : List Byte) : s.rxChars (as ++ bs) = (s.rxChars as).rxChars bs :=
  List.foldl_append

theorem rxChars_cons (s : State) (b : Byte) (bs : List Byte) : s.rxChars (b :: bs) = (s.rxByte b).rxChars bs := rfl

/-- The start byte and the two length bytes, from HUNT: the length is judged at once. -/
theorem rxChars_length (hd : s.deframer = .initial) (n : Half) : s.rxChars (0xA5 :: halfBytes n) =
    if 1024 < n.toNat then s.countBad
    else { s with deframer := { stage := .code, len := n.toNat, got := halfBytes n } } := by
  have hn : halfAt [n.extractLsb' 8 8, n.extractLsb' 0 8] 0 = n := halfAt_halfBytes n
  have hs : { s with deframer := .initial } = s := by rw [← hd]
  split
  · next h =>
    calc s.rxChars (0xA5 :: halfBytes n)
      _ = State.countBad { s with deframer := .initial } := by
        simp [State.rxChars, State.rxByte, Deframer.feed, Deframer.fieldEnd, Deframer.turn, hd, Deframer.initial, halfBytes, hn,
          h]
      _ = s.countBad := congrArg State.countBad hs
  · next h =>
    simp [State.rxChars, State.rxByte, Deframer.feed, Deframer.fieldEnd, Deframer.turn, hd, Deframer.initial, halfBytes, hn, h]

/-- The deframer has left HUNT and taken a length (10.2). -/
def RxStage.PastLength (x : RxStage) : Prop := x ≠ .hunt ∧ x ≠ .length

/-- Past the length, a byte that is not the frame's last is kept, and the deframer stays past the length. -/
theorem feed_pastLength {d : Deframer} (h : d.stage.PastLength) (hmore : d.got.length + 1 < 7 + d.len) (b : Byte) :
    ∃ x : RxStage, x.PastLength ∧ d.feed b = ({ d with stage := x, got := d.got ++ [b] }, .nothing) := by
  obtain ⟨hhunt, hlength⟩ := h
  rw [Deframer.feed, if_neg hhunt]
  split
  · exact ⟨d.stage, ⟨hhunt, hlength⟩, rfl⟩
  · next hwhole =>
    unfold Deframer.turn
    cases hx : d.stage with
    | hunt => exact absurd hx hhunt
    | length => exact absurd hx hlength
    | code => exact ⟨.kind, by simp [RxStage.PastLength], rfl⟩
    | kind => exact ⟨if d.len = 0 then .crc else .body, by split <;> simp [RxStage.PastLength], rfl⟩
    | body => exact ⟨.crc, by simp [RxStage.PastLength], rfl⟩
    | crc => exact absurd hmore (by simpa [Deframer.fieldEnd, hx] using hwhole)

/-- Past the length, fewer bytes than the frame lacks, whatever they are, leave it in assembly and touch nothing else. -/
theorem rxChars_pastLength : ∀ (bs : List Byte) (s : State), s.deframer.stage.PastLength →
    s.deframer.got.length + bs.length < 7 + s.deframer.len →
    ∃ d : Deframer, d.stage ≠ .hunt ∧ s.rxChars bs = { s with deframer := d }
  | [], s, h, _ => ⟨s.deframer, h.1, rfl⟩
  | b :: bs, s, h, hroom => by
    rw [List.length_cons] at hroom
    obtain ⟨x, hx, hfeed⟩ := feed_pastLength h (by omega) b
    have hrest := rxChars_pastLength bs { s with deframer := { s.deframer with stage := x, got := s.deframer.got ++ [b] } } hx
      (by simp only [List.length_append, List.length_singleton]; omega)
    rwa [rxChars_cons, rxByte_nothing hfeed]

/-- A frame cut off after its start byte and before its last byte is in assembly. -/
theorem rxChars_cut (hd : s.deframer = .initial) (code : Half) (kind : Byte) (hb : body.length ≤ 1024) {n : Nat} (hpos : 0 < n)
    (hn : n < body.length + 8) : ∃ d : Deframer, d.stage ≠ .hunt ∧
      s.rxChars ((frameBytes code kind body).take n) = { s with deframer := d } := by
  obtain ⟨m, rfl⟩ | hshort : (∃ m, n = 3 + m) ∨ n = 1 ∨ n = 2 := by
    by_cases h : 3 ≤ n
    · exact .inl (Nat.exists_eq_add_of_le h)
    · omega
  · have hlen : (BitVec.ofNat 16 body.length).toNat = body.length := Nat.mod_eq_of_lt (by omega)
    obtain ⟨rest, hrest⟩ : ∃ rest, frameBytes code kind body = (0xA5 :: halfBytes (BitVec.ofNat 16 body.length)) ++ rest :=
      ⟨_, by simp only [frameBytes, frameWith, frameCore, natBytes2, List.append_assoc]; rfl⟩
    have htake : (frameBytes code kind body).take (3 + m) =
        (0xA5 :: halfBytes (BitVec.ofNat 16 body.length)) ++ rest.take m := by
      rw [hrest]
      exact List.take_length_add_append (l₁ := 0xA5 :: halfBytes (BitVec.ofNat 16 body.length)) m
    have hcode := rxChars_length hd (BitVec.ofNat 16 body.length)
    rw [hlen, if_neg (by omega)] at hcode
    rw [htake, rxChars_append, hcode]
    refine rxChars_pastLength _ _ ⟨by simp, by simp⟩ ?_
    simp only [halfBytes_length, List.length_take]
    omega
  · rcases hshort with rfl | rfl
    · exact ⟨{ stage := .length, len := 0, got := [] }, by simp, by
        simp [frameBytes, frameWith, State.rxChars, State.rxByte, Deframer.feed, hd, Deframer.initial]⟩
    · exact ⟨{ stage := .length, len := 0, got := [(BitVec.ofNat 16 body.length : Half).extractLsb' 8 8] }, by simp, by
        simp [frameBytes, frameWith, frameCore, natBytes2, halfBytes, State.rxChars, State.rxByte, Deframer.feed,
          Deframer.fieldEnd, hd, Deframer.initial]⟩

/-- No byte but A5h leaves HUNT. -/
theorem rxChars_hunt (hd : s.deframer = .initial) : ∀ chars : List Byte, (∀ b ∈ chars, b ≠ 0xA5) → s.rxChars chars = s
  | [], _ => rfl
  | b :: bs, h => by
    obtain ⟨hb, hbs⟩ := List.forall_mem_cons.1 h
    have hstay : s.rxByte b = s := rxByte_nothing (by simpa [Deframer.feed, hd, Deframer.initial] using hb)
    rw [rxChars_cons, hstay, rxChars_hunt hd bs hbs]

/-! ## A frame discarded or abandoned (R168, R169) -/

theorem abandonFrame_hunt (h : s.deframer.stage = .hunt) : s.abandonFrame = s := if_pos h

/-- A frame in assembly since HUNT is abandoned: the deframer is back as it was, and only the count has moved. -/
theorem abandonFrame_assembling {d : Deframer} (hd : s.deframer = .initial) (h : d.stage ≠ .hunt) :
    State.abandonFrame { s with deframer := d } = s.countBad := by
  have hs : { s with deframer := .initial } = s := by rw [← hd]
  exact (if_neg h).trans (congrArg State.countBad hs)

theorem exec_lengthOversize (hr : s.resetnLow = false) (n : Half) :
    exec (.lengthOversize n) s = .next (s.rxChars (0xA5 :: halfBytes n)) :=
  whenRunning_next hr fun s => s.rxChars (0xA5 :: halfBytes n)

theorem exec_frameGapTimeout (hr : s.resetnLow = false) (chars : List Byte) :
    exec (.frameGapTimeout chars) s = .next (s.rxChars chars).abandonFrame :=
  whenRunning_next hr fun s => (s.rxChars chars).abandonFrame

/-- A framing error does what a gap does. -/
theorem exec_framingError (chars : List Byte) (s : State) :
    exec (.framingError chars) s = exec (.frameGapTimeout chars) s := rfl

/-- Settles O10: the length decides at its second byte; what is cut off before its end is in assembly, and abandoned. -/
theorem discardedAndAbandonedFrames : Obligations.DiscardedAndAbandonedFrames := by
  refine ⟨fun n s hr hd => ?_, fun s hr hd => ⟨fun code kind body n hb hpos hn => ?_, fun chars hchars => ?_⟩⟩
  · rw [exec_lengthOversize hr, rxChars_length hd]
    exact ⟨fun h => by rw [if_pos h, State.countBad], fun h => by rw [if_neg (Nat.not_lt.2 h)]⟩
  · obtain ⟨d, hassembling, hcut⟩ := rxChars_cut hd code kind hb hpos hn
    rw [exec_framingError, exec_frameGapTimeout hr, hcut, abandonFrame_assembling hd hassembling, State.countBad]
    exact ⟨rfl, rfl⟩
  · rw [exec_framingError, exec_frameGapTimeout hr, rxChars_hunt hd chars hchars, abandonFrame_hunt (by rw [hd]; rfl)]
    exact ⟨rfl, rfl⟩

/-! ## The queue of commands (log entries 2, 32) -/

theorem step_front {c : Instr} {rest : List Instr} (h : s.pending = c :: rest) : step s = exec c (s.withPending rest) := by
  rw [step, h]

theorem step_idle (h : s.pending = []) : step s = .next s := by rw [step, h]

/-- Settles O1: the two branches of the step. -/
theorem stepRunsTheFrontCommand : Obligations.StepRunsTheFrontCommand := ⟨fun _ _ _ => step_front, fun _ => step_idle⟩

/-! ## The transmitter and RESETN (R175 to R178) -/

theorem takeTransmitStart_begins {f : Uplink} {rest : List Uplink} (ht : s.transmitter = .fill) (hu : s.uplink = f :: rest) :
    takeTransmitStart true s = { s with uplink := rest, transmitter := .sending f (uplinkBytes s.stationCode f) } := by
  rw [takeTransmitStart, ht, hu]
  rfl

theorem takeTransmitStart_waits {ready : Bool} (h : ready = false ∨ s.uplink = [] ∨ s.transmitter ≠ .fill) :
    takeTransmitStart ready s = s := by
  unfold takeTransmitStart
  split
  · next f rest ht hu =>
    rcases h with h | h | h
    · rw [h]
      rfl
    · rw [hu] at h
      cases h
    · exact absurd ht h
  · rfl

theorem takeTransmitEnd_sending {f : Uplink} {bytes : List Byte} (h : s.transmitter = .sending f bytes) :
    takeTransmitEnd s = { s with transmitter := .fill, lastSent := some f } := by
  rw [takeTransmitEnd, h]

/-- Every command but a power-on reset is one that RESETN keeps from running. -/
theorem exec_whenRunning (i : Instr) (h : ∀ straps, i ≠ .powerOnReset straps) : ∃ f, ∀ s, exec i s = whenRunning s f := by
  cases i with
  | powerOnReset straps => exact absurd rfl (h straps)
  | _ => exact ⟨_, fun _ => rfl⟩

theorem whenRunning_low (h : s.resetnLow = true) (f : State → State) : whenRunning s f = .next s := by
  rw [whenRunning, if_pos h]

/-- Settles O57: the transmitter by the branches of its two operations, a held part by what keeps every command from running. -/
theorem transmissionAndResetn : Obligations.TransmissionAndResetn := by
  refine ⟨fun s hr => ⟨?_, fun ready hready => ?_, fun f bytes ht => ?_⟩, fun s hr => ?_, fun i s hlow hi => ?_⟩
  · rintro f rest core ht hu rfl
    exact (whenRunning_next hr _).trans (congrArg _ (takeTransmitStart_begins ht hu))
  · exact (whenRunning_next hr _).trans (congrArg _ (takeTransmitStart_waits hready))
  · exact (whenRunning_next hr _).trans (congrArg _ (takeTransmitEnd_sending ht))
  · exact whenRunning_next hr takeResetn
  · obtain ⟨f, hf⟩ := exec_whenRunning i hi
    rw [hf, whenRunning_low hlow]

end Sys2Proof.Machine
end
